-- ==== Sys2Proof/Word.lean ====
section
/-! DEFINITION. The widths the manual fixes (00_scope.md, Conventions; R183) and the index types of its tables. -/

namespace Sys2Proof

/-- One byte of a frame, a transaction or module space. -/
abbrev Byte := BitVec 8

/-- A 32-bit value: a bridge address, a fault number, a stamp, a heartbeat value, a data word. -/
abbrev Word := BitVec 32

/-- A module address, 0x000000-0xFFFFFF (00_scope.md, Terms). -/
abbrev ModAddr := BitVec 24

/-- A slot number, 0-15. -/
abbrev SlotId := Fin 16

/-- A window index, 0-7. -/
abbrev WindowId := Fin 8

/-- The 16 slots in slot order. -/
def slotIds : List SlotId := [0, 1, 2, 3, 4, 5, 6, 7, 8, 9, 10, 11, 12, 13, 14, 15]

/-- The 8 windows in index order. -/
def windowIds : List WindowId := [0, 1, 2, 3, 4, 5, 6, 7]

end Sys2Proof
end

