-- ==== Sys2Proof/Config.lean ====
section
/-! DEFINITION. What the part fixes: its capacities (00_scope.md, Capacities), its identity (R191) and the power-on
values of its 13 configuration parameters (00_scope.md, Configuration parameters). The spec leaves no value open
after a command, so there is no opaque constant here. -/

namespace Sys2Proof.Config

/-- Transfer-queue entries, transfers and fences together (R36). -/
def queueEntries : Nat := 16
/-- Posts in the post queue (R128). -/
def posts : Nat := 32
/-- Bytes of the staging store (R129). -/
def stagingBytes : Nat := 8192
/-- Records in the fault list (R148). -/
def faultRecords : Nat := 32
/-- Accepted, unreplied requests (R170). -/
def unrepliedRequests : Nat := 8
/-- Entries of the reply cache (R173). -/
def cacheEntries : Nat := 8
/-- The bit times of two character times, for which a break holds the receive line low (R165, R166). -/
def breakTimes : Nat := 20
/-- Longest frame payload (R167). -/
def payloadBytes : Nat := 4160
/-- Page-map entries (R19). -/
def pageEntries : Nat := 2048
/-- Longest transfer (R38). -/
def transferBytes : Nat := 4096
/-- Longest post body (R136). -/
def postBytes : Nat := 256
/-- Most post credits (R145). -/
def credits : Nat := 64
/-- The attempt gap, in ms (R95). -/
def attemptGap : Nat := 20
/-- The back-off when CHECK_INTERVAL is 0, in ms (R142). -/
def backOffWithoutChecks : Nat := 100
/-- Identity code of LINK_UP (R191). -/
def identity : BitVec 16 := 0x4B16
/-- Revision of LINK_UP (R191). -/
def revision : Byte := 0x01
/-- Module address of every descriptor (R92, R192). -/
def descriptorAddr : ModAddr := 0xFFFFC0

end Sys2Proof.Config
end

