-- ==== Sys2Proof/Syntax.lean ====
section
/-! DEFINITION. The commands of the block: one constructor per row of spec/opcode_table.json. A host request is what
the framer passes on (R168): its sequence byte and its payload bytes as they stand, so that payloads that do not fit
are terms too; the owner of the request takes the fields out of them (Machine/Operands.lean, R188). -/

namespace Sys2Proof

/-- The ten levels of one character on a line (R165): bit `k` is the level `k` bit times after the character's start, so
bit 0 is the start bit, bits 1 to 8 the data and bit 9 the stop bit. With a high first level it is the line at rest
(DEDUCED, log 31). -/
abbrev LineChar := BitVec 10

/-- A module's response code on the response lines (R67); `unnamed` is a value that names none of the four. -/
inductive ResponseCode where
  | ack | retry | reject | dataError | unnamed
deriving DecidableEq, Repr

/-- The levels of the input pins that power-on samples (00_scope.md, Pins; R85, R165, R176). A set presence or
attention bit is an active line, bit k for slot k. -/
structure PowerPins where
  rateA     : Bool
  rateB     : Bool
  rxLow     : Bool
  presence  : BitVec 16
  attention : BitVec 16
deriving DecidableEq, Repr

/-- The commands, in the order of spec/opcode_table.json. -/
inductive Instr where
  | powerOn (pins : PowerPins)
  | breakBegin
  | breakEnd
  | frameDiscard (chars : List LineChar)
  | unknownKindRequest (kind seq : Byte) (payload : List Byte)
  | windowSet (seq : Byte) (payload : List Byte)
  | windowClear (seq : Byte) (payload : List Byte)
  | windowGet (seq : Byte) (payload : List Byte)
  | pageWrite (seq : Byte) (payload : List Byte)
  | pageRead (seq : Byte) (payload : List Byte)
  | pageSweep (seq : Byte) (payload : List Byte)
  | accessRead (seq : Byte) (payload : List Byte)
  | accessWrite (seq : Byte) (payload : List Byte)
  | accessSwap (seq : Byte) (payload : List Byte)
  | accessFence (seq : Byte) (payload : List Byte)
  | accessAbort (seq : Byte) (payload : List Byte)
  | slotGet (seq : Byte) (payload : List Byte)
  | slotEnroll (seq : Byte) (payload : List Byte)
  | slotReset (seq : Byte) (payload : List Byte)
  | slotOff (seq : Byte) (payload : List Byte)
  | slotOn (seq : Byte) (payload : List Byte)
  | holdAcquire (seq : Byte) (payload : List Byte)
  | holdCycle (seq : Byte) (payload : List Byte)
  | holdRelease (seq : Byte) (payload : List Byte)
  | postCredit (seq : Byte) (payload : List Byte)
  | attentionMask (seq : Byte) (payload : List Byte)
  | faultRead (seq : Byte) (payload : List Byte)
  | faultClear (seq : Byte) (payload : List Byte)
  | noticeMask (seq : Byte) (payload : List Byte)
  | echo (seq : Byte) (payload : List Byte)
  | configGet (seq : Byte) (payload : List Byte)
  | configSet (seq : Byte) (payload : List Byte)
  | bridgeReset (seq : Byte) (payload : List Byte)
  | outputFrameBegin
  | frameSent
  | bridgeResetComplete
  | transferGrant
  | superviseGrant
  | inboundGrant
  | holdGrant
  | responseCodeArrives (code : ResponseCode) (parityGood : Bool)
  | readDataWordArrives (word : Word) (parity : BitVec 4)
  | responseTimerExpiry
  | retryDelayExpiry
  | swapResendDelayExpiry
  | settleTimerExpiry (slot : SlotId)
  | attemptGapExpiry (slot : SlotId)
  | checkTimerExpiry (slot : SlotId)
  | pulseTimerExpiry (slot : SlotId)
  | limitTimerExpiry
  | backOffExpiry (slot : SlotId)
  | stampTick
  | presenceActive (slot : SlotId)
  | presenceInactive (slot : SlotId)
  | attentionChange (slot : SlotId) (level : Bool)
  | windowDrainEnd (window : WindowId)
  | fenceAtHead
  | holdEnds
  | requestDriven
deriving DecidableEq, Repr

end Sys2Proof
end

