-- ==== Sys2Proof/Machine/State.lean ====
section
/-! DEFINITION. The state of the part, block by block as the chapters list it, and its power-on values. Plain data. -/

namespace Sys2Proof.Machine

/-! ### Outcomes -/

/-- No command of this part stops the machine: a failure is a status, a fault record or a FAULTED slot. The type has
no constructor, so no fault is ever raised (safe). -/
inductive Fault where
deriving DecidableEq, Repr

/-- Refusals. -/
inductive Refusal where
  /-- Raised by an arm of `exec` whose command has no meaning yet; no arm raises it in this model (safe). -/
  | notModelled (mnemonic : String)
deriving DecidableEq, Repr

/-! ### Common code spaces -/

/-- The statuses of 00_scope.md, Statuses (codes in R187). -/
inductive Status where
  | ok | posted | malformed | unknownKind | range | wrongState | busy | overlap | noWindow | readOnly | misaligned
  | queueFull | pageFault | slotDown | rejected | noResponse | retryExhausted | aborted | notFound | notHeld
  | alreadyHeld | cancelled | overload | parity
deriving DecidableEq, Repr

/-- Slot fault causes (R84); the four ENROLL ones are also attempt causes. -/
inductive SlotCause where
  | silent | lagging | enrollNoResponse | enrollBadMarker | enrollBadChecksum | enrollBadLayout
deriving DecidableEq, Repr

/-- The status or cause of a fault record (R149). -/
inductive FaultCode where
  | status (s : Status)
  | slot (c : SlotCause)
  | badLength
deriving DecidableEq, Repr

/-- An accepted request as the host link and the owner of a deferred reply record it: sequence, kind, request CRC and
the session it was accepted in (R170, R172, R173). -/
structure ReqId where
  seq     : Byte
  kind    : Byte
  crc     : BitVec 16
  session : Nat
deriving DecidableEq, Repr

/-! ### Configuration parameters -/

/-- The 13 parameters with their power-on defaults (00_scope.md, Configuration parameters). -/
structure Params where
  responseTimeout : Nat := 200
  retryLimit      : Nat := 8
  retryDelay      : Nat := 100
  inboundTurn     : Nat := 4
  settleTime      : Nat := 250
  autoEnroll      : Bool := true
  enrollAttempts  : Nat := 3
  checkInterval   : Nat := 100
  skipAllowance   : Nat := 2
  lagLimit        : Nat := 3
  silenceLimit    : Nat := 4
  slotResetPulse  : Nat := 10
  holdLimit       : Nat := 500
deriving DecidableEq, Repr

/-! ### Window table (R2) -/

inductive WindowState where
  | disabled | enabled | closing
deriving DecidableEq, Repr

inductive WindowKind where
  | direct | paged
deriving DecidableEq, Repr

/-- The access of a window (R2) or of a page entry (R19). -/
inductive Access where
  | readWrite | readOnly
deriving DecidableEq, Repr

inductive WritePolicy where
  | acknowledged | posted
deriving DecidableEq, Repr

/-- A window record; the defaults are its reset values (R3). -/
structure Window where
  state      : WindowState := .disabled
  base       : Word := 0
  sizeLog2   : Nat := 16
  kind       : WindowKind := .direct
  access     : Access := .readWrite
  policy     : WritePolicy := .acknowledged
  useCount   : Nat := 0
  slot       : SlotId := 0
  moduleBase : ModAddr := 0
  origin     : Nat := 0
  clearReply : Option ReqId := none
deriving DecidableEq, Repr

/-! ### Page map (R19) -/

/-- A page entry; the defaults are its reset values (R20). -/
structure PageEntry where
  valid      : Bool := false
  slot       : SlotId := 0
  frame      : BitVec 12 := 0
  access     : Access := .readWrite
  referenced : Bool := false
  written    : Bool := false
deriving DecidableEq, Repr

/-! ### Transfer engine (R37) -/

/-- The kind of a transfer with the data it carries to the module. -/
inductive XferKind where
  | read
  | write (data : List Byte)
  | swap (compare new : Word)
deriving DecidableEq, Repr

/-- QUEUED, ISSUING, or PAUSED with the duration of the running retry delay in µs (R37, R46). -/
inductive XferState where
  | queued
  | issuing
  | paused (delay : Nat)
deriving DecidableEq, Repr

/-- A transfer entry (R37). An empty `aborts` is a clear abort mark; otherwise it is the mark's list, oldest first. -/
structure Transfer where
  req       : ReqId
  kind      : XferKind
  window    : WindowId
  start     : Word
  length    : Nat
  readData  : List Byte := []
  issued    : Nat := 0
  completed : Nat := 0
  posted    : Bool := false
  state     : XferState := .queued
  retries   : Nat := 0
  aborts    : List ReqId := []
deriving DecidableEq, Repr

/-- A queue entry: a transfer or a fence (R36). -/
inductive QEntry where
  | transfer (t : Transfer)
  | fence (req : ReqId)
deriving DecidableEq, Repr

/-- Where a locked pair stands: its LOCK_READ, its second half, or the delay before the second half is sent again
(R57, R58). -/
inductive PairStage where
  | lockRead
  | second
  | resend (delay : Nat)
deriving DecidableEq, Repr

/-- The locked pair under way (R57-R59). It outlives its queue entry at a bridge reset (R61), so it keeps its own copy
of what its second half needs. `entry` is the page entry whose written indication the pair may set (R25); a bridge
reset makes it absent. -/
structure Pair where
  slot    : SlotId
  addr    : ModAddr
  compare : Word
  new     : Word
  entry   : Option Nat
  old     : Option Word
  stage   : PairStage
  retries : Nat
deriving DecidableEq, Repr

structure Xfer where
  queue          : List QEntry := []
  postedFailures : Nat := 0
  pair           : Option Pair := none
deriving DecidableEq, Repr

/-! ### Backplane controller and arbiter (R63, R73) -/

inductive Requester where
  | hold | supervise | transfer | inbound
deriving DecidableEq, Repr

inductive Command where
  | read | write | lockRead | unlockWrite | unlock
deriving DecidableEq, Repr

/-- The seven results of a transaction (R71). -/
inductive Result where
  | ack | retry | reject | dataError | parity | noResponse | absent
deriving DecidableEq, Repr

/-- The phases of a transaction (R63). END is passed through within the event that ends the transaction. -/
inductive Phase where
  | request | wait | data | fin
deriving DecidableEq, Repr

/-- A transaction in progress (R63), with what the controller needs to run its DATA phase: the words received, whether
an enabled lane has mismatched, and the running response timer with its duration in µs (R68, R69). -/
structure Tx where
  requester : Requester
  command   : Command
  slot      : SlotId
  addr      : ModAddr
  count     : Nat
  writeData : List Byte := []
  readData  : List Byte := []
  phase     : Phase := .request
  words     : Nat := 0
  mismatch  : Bool := false
  timer     : Option Nat := none
deriving DecidableEq, Repr

/-- The read check the controller drives at END (R69). -/
inductive ReadCheck where
  | accept | refuse
deriving DecidableEq, Repr

structure Ctrl where
  tx        : Option Tx := none
  readCheck : Option ReadCheck := none
deriving DecidableEq, Repr

/-- The set of waiting requests (R73). -/
structure Waiting where
  hold      : Bool := false
  supervise : Bool := false
  transfer  : Bool := false
  inbound   : Bool := false
deriving DecidableEq, Repr

/-- The arbiter (R73). `choice` is the model's own field: the waiting request the arbiter has chosen at a free
backplane and whose grant step comes next (DEDUCED, log 4). -/
structure Arb where
  holder  : Option Requester := none
  waiting : Waiting := {}
  turn    : Nat := 0
  choice  : Option Requester := none
deriving DecidableEq, Repr

/-! ### Slot supervisor (R84, R91) -/

inductive SlotState where
  | off | empty | settling | present | enrolling | active | lagging | faulted | resetting
deriving DecidableEq, Repr

/-- The causes of a slot's last change of state (R109). -/
inductive LastCause where
  | inserted | settled | enrolled | lag | recovered | fault | removed | reset | off | on
deriving DecidableEq, Repr

/-- The fields of a descriptor copy (R84). -/
structure Descriptor where
  cls           : Byte
  revision      : Byte
  attention     : Bool
  swap          : Bool
  spaceLog2     : Nat
  heartbeatAddr : ModAddr
  postAddr      : ModAddr
  maxPost       : Nat
deriving DecidableEq, Repr

inductive TimerKind where
  | settle | gap | check | pulse
deriving DecidableEq, Repr

/-- A running slot timer: its kind and the duration in ms it was started with (R86). -/
structure SlotTimer where
  kind : TimerKind
  ms   : Nat
deriving DecidableEq, Repr

/-- Which transaction of an enrollment attempt is next or on the backplane (R84). -/
inductive EnrollStep where
  | none | descriptorRead | baselineRead
deriving DecidableEq, Repr

/-- A slot record (R84); `held` is the descriptor held with an enrollment attempt (R93). The defaults are the
power-on values of a slot whose presence is inactive (R85). -/
structure Slot where
  state        : SlotState := .empty
  epoch        : Byte := 0
  descriptor   : Option Descriptor := none
  heartbeat    : Word := 0
  lag          : Nat := 0
  skip         : Nat := 0
  silence      : Nat := 0
  attempts     : Nat := 0
  attemptCause : Option SlotCause := none
  faultCause   : Option SlotCause := none
  lastCause    : LastCause := .on
  timer        : Option SlotTimer := none
  step         : EnrollStep := .none
  held         : Option Descriptor := none
  enrollReply  : Option ReqId := none
deriving DecidableEq, Repr

/-- The three reads of the work list (R91). -/
inductive WorkRead where
  | descriptor | baseline | check
deriving DecidableEq, Repr

structure WorkItem where
  slot : SlotId
  read : WorkRead
deriving DecidableEq, Repr

structure Supervisor where
  slots : Vector Slot 16 := Vector.replicate 16 {}
  work  : List WorkItem := []
deriving DecidableEq, Repr

/-! ### Hold unit (R114) -/

inductive HoldState where
  | idle | pending | held
deriving DecidableEq, Repr

inductive EndCause where
  | release | expiry | brk
deriving DecidableEq, Repr

/-- One HOLD_CYCLE with its fields (R117). -/
structure Cycle where
  req     : ReqId
  slot    : SlotId
  command : Command
  addr    : ModAddr
  count   : Nat
  data    : List Byte
deriving DecidableEq, Repr

/-- The hold unit (R114). An absent end cause is "none"; the limit timer carries its duration in ms. -/
structure Hold where
  state        : HoldState := .idle
  acquire      : Option ReqId := none
  limit        : Option Nat := none
  limitTimer   : Option Nat := none
  endCause     : Option EndCause := none
  releaseReply : Option ReqId := none
  cycle        : Option Cycle := none
  cycles       : List Cycle := []
deriving DecidableEq, Repr

/-! ### Inbound engine (R128-R130) -/

/-- A post record (R128); its length is the number of bytes of its body. -/
structure Post where
  number  : BitVec 16
  slot    : SlotId
  epoch   : Byte
  channel : Byte
  tag     : Byte
  body    : List Byte
  stamp   : Word
deriving DecidableEq, Repr

inductive ServiceStep where
  | header | body | take | discardTake
deriving DecidableEq, Repr

/-- The service record (R130). `length`, `channel` and `tag` are the header's once it has been read; the body bytes
read so far are `body`. -/
structure Service where
  slot     : SlotId
  epoch    : Byte
  postAddr : ModAddr
  step     : ServiceStep
  length   : Nat := 0
  channel  : Byte := 0
  tag      : Byte := 0
  body     : List Byte := []
deriving DecidableEq, Repr

structure Inbound where
  posts      : List Post := []
  reserved   : Nat := 0
  service    : Option Service := none
  pointer    : SlotId := 0
  credits    : Nat := 0
  masked     : Vector Bool 16 := Vector.replicate 16 false
  nextNumber : BitVec 16 := 0
  backOff    : Vector (Option Nat) 16 := Vector.replicate 16 none
  roomWait   : Vector (Option Nat) 16 := Vector.replicate 16 none
deriving DecidableEq, Repr

/-! ### Fault list and notice unit (R148, R149, R156) -/

inductive FaultKind where
  | postedWrite | inbound | slot
deriving DecidableEq, Repr

/-- A fault record (R149). -/
structure FaultRecord where
  number    : Word := 0
  kind      : FaultKind
  stamp     : Word := 0
  code      : FaultCode
  lost      : Bool := false
  slot      : Option SlotId := none
  epoch     : Option Byte := none
  seq       : Option Byte := none
  bridge    : Option Word := none
  moduleAddr : Option ModAddr := none
  completed : Option Nat := none
  channel   : Option Byte := none
  tag       : Option Byte := none
deriving DecidableEq, Repr

/-- A record in the list with its FAULT pending indication (R158). -/
structure FaultEntry where
  record  : FaultRecord
  pending : Bool
deriving DecidableEq, Repr

/-- The fault list (R148). `given` says whether any number has been given since power-on (R153). -/
structure Faults where
  entries : List FaultEntry := []
  next    : Word := 1
  given   : Bool := false
deriving DecidableEq, Repr

/-- The notice unit (R156); its defaults are the power-on values (R162). -/
structure Notices where
  slotPending   : Vector Bool 16 := Vector.replicate 16 true
  holdEnd       : Option Nat := none
  slotEnabled   : Bool := true
  faultEnabled  : Bool := true
  holdEnabled   : Bool := true
deriving DecidableEq, Repr

/-! ### Host link (R164) -/

inductive LinkPhase where
  | opened | brk | resetWait
deriving DecidableEq, Repr

/-- The receive framer (R164, R168): HUNT, or the bytes of the frame in progress from its sync byte on. -/
inductive Framer where
  | hunt
  | frame (received : List Byte)
deriving DecidableEq, Repr

/-- A reply as its owner queued it (R172): the request it answers, its status and the payload after the status byte.
`resend` marks a copy resent from the reply cache (R173). -/
structure Reply where
  seq    : Byte
  kind   : Byte
  crc    : BitVec 16
  status : Status
  body   : List Byte
  resend : Bool
deriving DecidableEq, Repr

/-- A cache entry (R173). -/
structure CacheEntry where
  seq    : Byte
  kind   : Byte
  crc    : BitVec 16
  status : Status
  body   : List Byte
deriving DecidableEq, Repr

/-- The reset kinds of LINK_UP (R175). -/
inductive ResetKind where
  | powerOn | bridge | brk
deriving DecidableEq, Repr

/-- The rates the straps select (R165). -/
inductive LineRate where
  | baud115200 | baud1000000 | baud3000000 | baud6000000
deriving DecidableEq, Repr

/-- The class byte of a frame (R167). -/
inductive FrameClass where
  | request | reply | notice
deriving DecidableEq, Repr

/-- A frame without its sync byte and CRC, which follow from it (R167). -/
structure Frame where
  cls     : FrameClass
  kind    : Byte
  seq     : Byte
  payload : List Byte
deriving DecidableEq, Repr

/-- Where the frame on the transmit line came from, with what its owner needs when it ends or is cut off (R160, R174,
R177). `setAgain` says whether the HOLD_END indication has been set again since the frame was begun (R160). -/
inductive FrameSource where
  | reply (r : Reply)
  | overload
  | linkUp (kind : ResetKind)
  | slotState (slot : SlotId)
  | holdEnd (limit : Nat) (setAgain : Bool)
  | fault (number : Word)
  | post
deriving DecidableEq, Repr

/-- The host link (R164). `lowRun` is what R166 needs of the receive line: for how many bit times it has been low at the
end of the levels received so far, outside BREAK (DESIGN CHOICE, log 32). `replies` is the reply queue of R172, whose 16
no act of the model enforces (DESIGN CHOICE, log 33). -/
structure Link where
  phase         : LinkPhase := .opened
  resetTaken    : Bool := false
  session       : Nat := 0
  framer        : Framer := .hunt
  lowRun        : Nat := 0
  unreplied     : List ReqId := []
  replies       : List Reply := []
  cache         : List CacheEntry := []
  overload      : Option (Byte × Byte) := none
  linkUp        : Option ResetKind := some .powerOn
  noticeCounter : Byte := 0
  transmitter   : Option (Frame × FrameSource) := none
  rate          : LineRate := .baud115200
deriving DecidableEq, Repr

/-! ### Pins and modules -/

/-- The levels of the input pins as the part last saw them (00_scope.md, Pins). `rxLow` says that a break
holds the receive line low (R166, R176). -/
structure Pins where
  rateA     : Bool := false
  rateB     : Bool := false
  rxLow     : Bool := false
  presence  : Vector Bool 16 := Vector.replicate 16 false
  attention : Vector Bool 16 := Vector.replicate 16 false
deriving DecidableEq, Repr

/-- What R72 lets be known of a module's lock: not locked, locked on the word at an address, or not known after an
unlock of that word that ended NO_RESPONSE or PARITY. It is the module's state; the part never reads it. -/
inductive ModuleLock where
  | unlocked
  | locked (addr : ModAddr)
  | unknown (addr : ModAddr)
deriving DecidableEq, Repr

/-! ### The whole state -/

/-- The state of the part. -/
structure State where
  pins    : Pins := {}
  link    : Link := {}
  windows : Vector Window 8 := Vector.replicate 8 {}
  pages   : Vector PageEntry 2048 := Vector.replicate 2048 {}
  xfer    : Xfer := {}
  ctrl    : Ctrl := {}
  arb     : Arb := {}
  sup     : Supervisor := {}
  hold    : Hold := {}
  inb     : Inbound := {}
  faults  : Faults := {}
  notices : Notices := {}
  params  : Params := {}
  stamp   : Word := 0
  modules : Vector ModuleLock 16 := Vector.replicate 16 .unlocked
  pending : List Instr := []
deriving DecidableEq, Repr

/-- The part right after power-on (R3, R20, R36, R51, R80, R85, R114, R131, R153, R162, R164, R176), with the straps
low, the receive line high and every slot line inactive (DESIGN CHOICE, log 1), and no command waiting. -/
def State.reset : State := {}

end Sys2Proof.Machine
end

