-- ==== Sys2Proof/Machine/Bytes.lean ====
section
/-! DEFINITION. Byte order (R183), the frame check (R167), lane parity (chapter 4, opening) and the code bytes of the
enumerated fields (R186, R187, R191). -/

namespace Sys2Proof.Machine

/-! ### Little-endian fields (R183) -/

/-- A 16-bit field from its two bytes, least significant first. -/
def le16 (b0 b1 : Byte) : BitVec 16 := b1 ++ b0

/-- A 24-bit field from its three bytes, least significant first. -/
def le24 (b0 b1 b2 : Byte) : ModAddr := (b2 ++ b1 : BitVec 16) ++ b0

/-- A 32-bit field from its four bytes, least significant first. -/
def le32 (b0 b1 b2 b3 : Byte) : Word := ((b3 ++ b2 : BitVec 16) ++ b1 : BitVec 24) ++ b0

/-- The two bytes of a 16-bit field. -/
def bytes16 (v : BitVec 16) : List Byte := [v.extractLsb' 0 8, v.extractLsb' 8 8]

/-- The three bytes of a module address. -/
def bytes24 (v : ModAddr) : List Byte := [v.extractLsb' 0 8, v.extractLsb' 8 8, v.extractLsb' 16 8]

/-- The four bytes of a 32-bit field. -/
def bytes32 (v : Word) : List Byte :=
  [v.extractLsb' 0 8, v.extractLsb' 8 8, v.extractLsb' 16 8, v.extractLsb' 24 8]

/-- A count as one byte. -/
def byteOf (n : Nat) : Byte := BitVec.ofNat 8 n

/-- A count as two bytes. -/
def countBytes (n : Nat) : List Byte := bytes16 (BitVec.ofNat 16 n)

/-- One flag as bit `k` of a flags byte. -/
def flagBit (b : Bool) (k : Nat) : Byte := if b then 1#8 <<< k else 0#8

/-- A byte that holds 1 for yes and 0 for no. -/
def boolByte (b : Bool) : Byte := if b then 1 else 0

/-- Byte `i` of a list, 0 past its end. -/
def byteAt (bs : List Byte) (i : Nat) : Byte := bs.getD i 0

/-! ### The frame check (R167) -/

/-- One bit of the cyclic redundancy check with polynomial 0x1021, most significant bit first. -/
def crcBit (c : BitVec 16) : BitVec 16 := if c.msb then (c <<< 1) ^^^ 0x1021#16 else c <<< 1

/-- One byte of the check. -/
def crcByte (c : BitVec 16) (b : Byte) : BitVec 16 :=
  crcBit (crcBit (crcBit (crcBit (crcBit (crcBit (crcBit (crcBit (c ^^^ (b ++ 0#8)))))))))

/-- The check over bytes in line order, from the initial value 0xFFFF. -/
def crc16 (bs : List Byte) : BitVec 16 := bs.foldl crcByte 0xFFFF#16

/-! ### Lane parity -/

/-- Whether a byte carries an odd number of ones. -/
def oddOnes (b : Byte) : Bool :=
  b.getLsbD 0 ^^ b.getLsbD 1 ^^ b.getLsbD 2 ^^ b.getLsbD 3 ^^ b.getLsbD 4 ^^ b.getLsbD 5 ^^ b.getLsbD 6 ^^ b.getLsbD 7

/-- The parity line that gives a byte odd parity (chapter 4, opening). -/
def oddParityBit (b : Byte) : Bool := !oddOnes b

/-- Byte lane `k` of a data word, lane 0 the least significant. -/
def lane (w : Word) (k : Nat) : Byte := w.extractLsb' (8 * k) 8

/-- Lane `k` and its parity line together carry an odd number of ones. -/
def laneGood (w : Word) (parity : BitVec 4) (k : Nat) : Bool := oddOnes (lane w k) ^^ parity.getLsbD k

/-! ### Codes (R186, R187, R191) -/

def Status.code : Status → Byte
  | .ok => 0x00 | .posted => 0x01 | .malformed => 0x02 | .unknownKind => 0x03 | .range => 0x04 | .wrongState => 0x05
  | .busy => 0x06 | .overlap => 0x07 | .noWindow => 0x08 | .readOnly => 0x09 | .misaligned => 0x0A
  | .queueFull => 0x0B | .pageFault => 0x0C | .slotDown => 0x0D | .rejected => 0x0E | .noResponse => 0x0F
  | .retryExhausted => 0x10 | .aborted => 0x11 | .notFound => 0x12 | .notHeld => 0x13 | .alreadyHeld => 0x14
  | .cancelled => 0x15 | .overload => 0x16 | .parity => 0x17

def SlotCause.code : SlotCause → Byte
  | .silent => 0x40 | .lagging => 0x41 | .enrollNoResponse => 0x42 | .enrollBadMarker => 0x43
  | .enrollBadChecksum => 0x44 | .enrollBadLayout => 0x45

def FaultCode.code : FaultCode → Byte
  | .status s => s.code | .slot c => c.code | .badLength => 0x48

/-- A cause byte, 0xFF for none or absent (R187). -/
def causeByte : Option SlotCause → Byte
  | some c => c.code
  | none => 0xFF

def WindowState.code : WindowState → Byte
  | .disabled => 0 | .enabled => 1 | .closing => 2

def WindowKind.code : WindowKind → Byte
  | .direct => 0 | .paged => 1

def WindowKind.ofCode (b : Byte) : Option WindowKind :=
  if b = 0 then some .direct else if b = 1 then some .paged else none

def Access.code : Access → Byte
  | .readWrite => 0 | .readOnly => 1

def Access.ofCode (b : Byte) : Option Access :=
  if b = 0 then some .readWrite else if b = 1 then some .readOnly else none

def WritePolicy.code : WritePolicy → Byte
  | .acknowledged => 0 | .posted => 1

def WritePolicy.ofCode (b : Byte) : Option WritePolicy :=
  if b = 0 then some .acknowledged else if b = 1 then some .posted else none

/-- The valid code of a page set: INVALID 0, VALID 1. -/
def validOfCode (b : Byte) : Option Bool :=
  if b = 0 then some false else if b = 1 then some true else none

/-- A slot number of at most 15. -/
def slotOfByte (b : Byte) : Option SlotId :=
  if h : b.toNat < 16 then some ⟨b.toNat, h⟩ else none

/-- A window index of at most 7. -/
def windowOfByte (b : Byte) : Option WindowId :=
  if h : b.toNat < 8 then some ⟨b.toNat, h⟩ else none

def SlotState.code : SlotState → Byte
  | .off => 0 | .empty => 1 | .settling => 2 | .present => 3 | .enrolling => 4 | .active => 5 | .lagging => 6
  | .faulted => 7 | .resetting => 8

def LastCause.code : LastCause → Byte
  | .inserted => 1 | .settled => 2 | .enrolled => 3 | .lag => 4 | .recovered => 5 | .fault => 6 | .removed => 7
  | .reset => 8 | .off => 9 | .on => 10

def Command.ofCode (b : Byte) : Option Command :=
  if b = 0 then some .read else if b = 1 then some .write else if b = 2 then some .lockRead
  else if b = 3 then some .unlockWrite else if b = 4 then some .unlock else none

def Result.code : Result → Byte
  | .ack => 0 | .retry => 1 | .reject => 2 | .dataError => 3 | .parity => 4 | .noResponse => 5 | .absent => 6

def FaultKind.code : FaultKind → Byte
  | .postedWrite => 1 | .inbound => 2 | .slot => 3

def ResetKind.code : ResetKind → Byte
  | .powerOn => 1 | .bridge => 2 | .brk => 3

/-- The HOLD_END cause EXPIRY (R187). -/
def expiryCode : Byte := 1

def FrameClass.code : FrameClass → Byte
  | .request => 0x01 | .reply => 0x02 | .notice => 0x03

/-! ### Kind codes (R186) -/

namespace Kind
def windowSet : Byte := 0x10
def windowClear : Byte := 0x11
def windowGet : Byte := 0x12
def pageWrite : Byte := 0x18
def pageRead : Byte := 0x19
def pageSweep : Byte := 0x1A
def accessRead : Byte := 0x20
def accessWrite : Byte := 0x21
def accessSwap : Byte := 0x22
def accessFence : Byte := 0x23
def accessAbort : Byte := 0x24
def slotGet : Byte := 0x30
def slotEnroll : Byte := 0x31
def slotReset : Byte := 0x32
def slotOff : Byte := 0x33
def slotOn : Byte := 0x34
def holdAcquire : Byte := 0x38
def holdCycle : Byte := 0x39
def holdRelease : Byte := 0x3A
def postCredit : Byte := 0x40
def attentionMask : Byte := 0x41
def faultRead : Byte := 0x48
def faultClear : Byte := 0x49
def noticeMask : Byte := 0x4A
def echo : Byte := 0x50
def configGet : Byte := 0x51
def configSet : Byte := 0x52
def bridgeReset : Byte := 0x53
def linkUp : Byte := 0x80
def slotState : Byte := 0x81
def fault : Byte := 0x82
def holdEnd : Byte := 0x83
def post : Byte := 0x84

/-- The codes that name a request. -/
def requests : List Byte :=
  [windowSet, windowClear, windowGet, pageWrite, pageRead, pageSweep, accessRead, accessWrite, accessSwap,
   accessFence, accessAbort, slotGet, slotEnroll, slotReset, slotOff, slotOn, holdAcquire, holdCycle, holdRelease,
   postCredit, attentionMask, faultRead, faultClear, noticeMask, echo, configGet, configSet, bridgeReset]
end Kind

/-- Whether a kind code names a request (R186). -/
def namesRequest (kind : Byte) : Bool := Kind.requests.contains kind

/-! ### Frames (R167, R186) -/

/-- The bytes the check covers: from the class byte through the last payload byte. -/
def Frame.covered (f : Frame) : List Byte :=
  [f.cls.code, f.kind, f.seq] ++ countBytes f.payload.length ++ f.payload

/-- The frame's CRC. -/
def Frame.crc (f : Frame) : BitVec 16 := crc16 f.covered

/-- The frame on the line. -/
def Frame.bytes (f : Frame) : List Byte := 0x5A#8 :: f.covered ++ bytes16 f.crc

end Sys2Proof.Machine
end

