-- ==== Sys2Proof/Machine/Operands.lean ====
section
/-! DEFINITION. The fields a request's payload holds (R184, R188), and the configuration parameters by code. A parser
answers `none` for a payload that does not fit its request (MALFORMED); range checks belong to the owners. -/

namespace Sys2Proof.Machine

/-- A payload of exactly one byte: an index, a slot, a sequence number or a count. -/
def parseByte : List Byte → Option Byte
  | [b] => some b
  | _ => none

/-- An empty payload. -/
def parseEmpty : List Byte → Option Unit
  | [] => some ()
  | _ => none

/-! ### Windows and pages -/

/-- WINDOW_SET's fields as they stand in its payload (R188). -/
structure WindowFields where
  index      : Byte
  base       : Word
  sizeLog2   : Byte
  kind       : Byte
  access     : Byte
  policy     : Byte
  slot       : Byte
  moduleBase : ModAddr
  origin     : BitVec 16
deriving DecidableEq, Repr

/-- WINDOW_SET: 15 bytes. -/
def parseWindowSet : List Byte → Option WindowFields
  | [i, b0, b1, b2, b3, sz, kd, ac, wp, sl, m0, m1, m2, o0, o1] =>
    some { index := i, base := le32 b0 b1 b2 b3, sizeLog2 := sz, kind := kd, access := ac, policy := wp, slot := sl,
           moduleBase := le24 m0 m1 m2, origin := le16 o0 o1 }
  | _ => none

/-- One set of values of PAGE_WRITE (R188). -/
structure PageSet where
  valid  : Byte
  access : Byte
  slot   : Byte
  frame  : BitVec 16
deriving DecidableEq, Repr

/-- The sets of PAGE_WRITE, 5 bytes each; `none` when the bytes do not hold a whole number of sets. -/
def parsePageSets : List Byte → Option (List PageSet)
  | [] => some []
  | v :: a :: sl :: f0 :: f1 :: rest =>
    (parsePageSets rest).map ({ valid := v, access := a, slot := sl, frame := le16 f0 f1 } :: ·)
  | _ => none

/-- PAGE_WRITE: first, count and exactly count sets (R28). -/
def parsePageWrite : List Byte → Option (Nat × List PageSet)
  | f0 :: f1 :: c :: rest =>
    match parsePageSets rest with
    | some sets => if sets.length = c.toNat then some ((le16 f0 f1).toNat, sets) else none
    | none => none
  | _ => none

/-- PAGE_READ: first and a count of one byte. -/
def parsePageRead : List Byte → Option (Nat × Nat)
  | [f0, f1, c] => some ((le16 f0 f1).toNat, c.toNat)
  | _ => none

/-- PAGE_SWEEP: first and a count of two bytes. -/
def parsePageSweep : List Byte → Option (Nat × Nat)
  | [f0, f1, c0, c1] => some ((le16 f0 f1).toNat, (le16 c0 c1).toNat)
  | _ => none

/-- The entry a set of values writes, with its indications clear (R29); `none` when a code names no value, the slot is
greater than 15 or the frame greater than 4095 (R28). -/
def PageSet.entry (p : PageSet) : Option PageEntry :=
  match validOfCode p.valid, Access.ofCode p.access, slotOfByte p.slot with
  | some v, some a, some sl =>
    if p.frame.toNat ≤ 4095 then some { valid := v, slot := sl, frame := p.frame.setWidth 12, access := a } else none
  | _, _, _ => none

/-- The entries of all sets, or `none` when one of them spoils the request (R28). -/
def pageEntriesOf : List PageSet → Option (List PageEntry)
  | [] => some []
  | p :: ps =>
    match p.entry, pageEntriesOf ps with
    | some e, some es => some (e :: es)
    | _, _ => none

/-! ### Accesses -/

/-- ACCESS_READ: start and length. -/
def parseAccessRead : List Byte → Option (Word × Nat)
  | [s0, s1, s2, s3, l0, l1] => some (le32 s0 s1 s2 s3, (le16 l0 l1).toNat)
  | _ => none

/-- ACCESS_WRITE: start and the data that fill the rest of the payload. -/
def parseAccessWrite : List Byte → Option (Word × List Byte)
  | s0 :: s1 :: s2 :: s3 :: data => some (le32 s0 s1 s2 s3, data)
  | _ => none

/-- ACCESS_SWAP: start, compare and new. -/
def parseAccessSwap : List Byte → Option (Word × Word × Word)
  | [s0, s1, s2, s3, c0, c1, c2, c3, n0, n1, n2, n3] =>
    some (le32 s0 s1 s2 s3, le32 c0 c1 c2 c3, le32 n0 n1 n2 n3)
  | _ => none

/-! ### Hold -/

/-- HOLD_ACQUIRE: the limit in ms. -/
def parseLimit : List Byte → Option Nat
  | [l0, l1] => some (le16 l0 l1).toNat
  | _ => none

/-- HOLD_CYCLE's fields as they stand in its payload (R188). -/
structure CycleFields where
  slot    : Byte
  command : Byte
  addr    : ModAddr
  count   : Nat
  data    : List Byte
deriving DecidableEq, Repr

/-- Whether a command carries data to the module (R64). -/
def Command.carriesData : Command → Bool
  | .write | .unlockWrite => true
  | .read | .lockRead | .unlock => false

/-- Whether a command returns data from the module (R64). -/
def Command.returnsData : Command → Bool
  | .read | .lockRead => true
  | .write | .unlockWrite | .unlock => false

/-- HOLD_CYCLE: the write data are count bytes under WRITE and UNLOCK_WRITE and absent otherwise, a code that names no
command included; with any other data the payload does not fit (R117, R184, R188). -/
def parseHoldCycle : List Byte → Option CycleFields
  | sl :: cmd :: a0 :: a1 :: a2 :: c :: data =>
    let f : CycleFields := { slot := sl, command := cmd, addr := le24 a0 a1 a2, count := c.toNat, data := data }
    if data.length = (if (Command.ofCode cmd).any Command.carriesData then c.toNat else 0) then some f else none
  | _ => none

/-- The range checks of R117: count and address fit the command table of R64. -/
def Command.fits (k : Command) (addr : ModAddr) (count : Nat) : Bool :=
  match k with
  | .read | .write => 1 ≤ count && count ≤ 64 && addr.toNat % 64 + count ≤ 64
  | .lockRead | .unlockWrite | .unlock => count = 4 && addr.toNat % 4 = 0

/-! ### Inbound, faults, notices -/

/-- ATTENTION_MASK: change and value, one flag per slot. -/
def parseAttentionMask : List Byte → Option (BitVec 16 × BitVec 16)
  | [c0, c1, v0, v1] => some (le16 c0 c1, le16 v0 v1)
  | _ => none

/-- FAULT_READ: from and max. -/
def parseFaultRead : List Byte → Option (Word × Nat)
  | [f0, f1, f2, f3, m] => some (le32 f0 f1 f2 f3, m.toNat)
  | _ => none

/-- FAULT_CLEAR: upto. -/
def parseFaultClear : List Byte → Option Word
  | [u0, u1, u2, u3] => some (le32 u0 u1 u2 u3)
  | _ => none

/-- NOTICE_MASK: change and value. -/
def parseNoticeMask : List Byte → Option (Byte × Byte)
  | [c, v] => some (c, v)
  | _ => none

/-! ### Configuration parameters -/

/-- The 13 parameters in the order of the parameter table of the introduction. -/
inductive ParamId where
  | responseTimeout | retryLimit | retryDelay | inboundTurn | settleTime | autoEnroll | enrollAttempts
  | checkInterval | skipAllowance | lagLimit | silenceLimit | slotResetPulse | holdLimit
deriving DecidableEq, Repr

/-- All parameters, in that order. -/
def allParams : List ParamId :=
  [.responseTimeout, .retryLimit, .retryDelay, .inboundTurn, .settleTime, .autoEnroll, .enrollAttempts,
   .checkInterval, .skipAllowance, .lagLimit, .silenceLimit, .slotResetPulse, .holdLimit]

/-- The parameter codes 0x01 to 0x0D (R187). -/
def ParamId.code : ParamId → Byte
  | .responseTimeout => 0x01 | .retryLimit => 0x02 | .retryDelay => 0x03 | .inboundTurn => 0x04
  | .settleTime => 0x05 | .autoEnroll => 0x06 | .enrollAttempts => 0x07 | .checkInterval => 0x08
  | .skipAllowance => 0x09 | .lagLimit => 0x0A | .silenceLimit => 0x0B | .slotResetPulse => 0x0C | .holdLimit => 0x0D

/-- The parameter a code names. -/
def paramOfCode (b : Byte) : Option ParamId := allParams.find? (fun p => p.code == b)

/-- A parameter's value as CONFIG_GET gives it (R180). -/
def Params.get (p : Params) : ParamId → Nat
  | .responseTimeout => p.responseTimeout
  | .retryLimit => p.retryLimit
  | .retryDelay => p.retryDelay
  | .inboundTurn => p.inboundTurn
  | .settleTime => p.settleTime
  | .autoEnroll => if p.autoEnroll then 1 else 0
  | .enrollAttempts => p.enrollAttempts
  | .checkInterval => p.checkInterval
  | .skipAllowance => p.skipAllowance
  | .lagLimit => p.lagLimit
  | .silenceLimit => p.silenceLimit
  | .slotResetPulse => p.slotResetPulse
  | .holdLimit => p.holdLimit

/-- The parameters with one of them set. -/
def Params.set (p : Params) (i : ParamId) (v : Nat) : Params :=
  match i with
  | .responseTimeout => { p with responseTimeout := v }
  | .retryLimit => { p with retryLimit := v }
  | .retryDelay => { p with retryDelay := v }
  | .inboundTurn => { p with inboundTurn := v }
  | .settleTime => { p with settleTime := v }
  | .autoEnroll => { p with autoEnroll := v = 1 }
  | .enrollAttempts => { p with enrollAttempts := v }
  | .checkInterval => { p with checkInterval := v }
  | .skipAllowance => { p with skipAllowance := v }
  | .lagLimit => { p with lagLimit := v }
  | .silenceLimit => { p with silenceLimit := v }
  | .slotResetPulse => { p with slotResetPulse := v }
  | .holdLimit => { p with holdLimit := v }

/-- The range of each parameter (00_scope.md, Configuration parameters; R181). -/
def ParamId.inRange (i : ParamId) (v : Nat) : Bool :=
  match i with
  | .responseTimeout => 50 ≤ v && v ≤ 2000
  | .retryLimit => v ≤ 15
  | .retryDelay => 10 ≤ v && v ≤ 1000
  | .inboundTurn => 1 ≤ v && v ≤ 16
  | .settleTime => 10 ≤ v && v ≤ 2000
  | .autoEnroll => v ≤ 1
  | .enrollAttempts => 1 ≤ v && v ≤ 7
  | .checkInterval => v = 0 || (10 ≤ v && v ≤ 5000)
  | .skipAllowance => v ≤ 3
  | .lagLimit => 1 ≤ v && v ≤ 8
  | .silenceLimit => 1 ≤ v && v ≤ 15
  | .slotResetPulse => 1 ≤ v && v ≤ 100
  | .holdLimit => 1 ≤ v && v ≤ 5000

/-- CONFIG_SET's pairs of code and value; `none` when the bytes do not hold a whole number of pairs. -/
def parsePairs : List Byte → Option (List (Byte × BitVec 16))
  | [] => some []
  | c :: v0 :: v1 :: rest => (parsePairs rest).map ((c, le16 v0 v1) :: ·)
  | _ => none

/-- CONFIG_SET: 1 to 13 pairs (R181). -/
def parseConfigSet (payload : List Byte) : Option (List (Byte × BitVec 16)) :=
  match parsePairs payload with
  | some ps => if 1 ≤ ps.length ∧ ps.length ≤ 13 then some ps else none
  | none => none

/-- The pairs by parameter when every code names a parameter and every value is in its range; a parameter named twice
spoils the list too (R181). -/
def checkPairs : List (Byte × BitVec 16) → Option (List (ParamId × Nat))
  | [] => some []
  | (c, v) :: rest =>
    match paramOfCode c, checkPairs rest with
    | some i, some ps =>
      if i.inRange v.toNat ∧ i ∉ ps.map Prod.fst then some ((i, v.toNat) :: ps) else none
    | _, _ => none

/-- All pairs applied (R181). -/
def Params.apply (p : Params) (ps : List (ParamId × Nat)) : Params := ps.foldl (fun p x => p.set x.1 x.2) p

end Sys2Proof.Machine
end

