-- ==== Sys2Proof/Machine/Flags.lean ====
section
/-! DEFINITION. Flags bytes and flags words: page indications (R189), the flags of a swap's reply (R189), the
descriptor's flags byte (R192), the presence word of a fault record (R190), the notice mask byte (R188) and 16-flag
words (R188). -/

namespace Sys2Proof.Machine

/-- The indications byte of a page entry: bit 0 referenced, bit 1 written. -/
def PageEntry.indications (e : PageEntry) : Byte := flagBit e.referenced 0 ||| flagBit e.written 1

/-- The entry with both indications clear. -/
def PageEntry.cleared (e : PageEntry) : PageEntry := { e with referenced := false, written := false }

/-- The flags byte of a descriptor copy: bit 0 attention capable, bit 1 swap capable. -/
def Descriptor.flags (d : Descriptor) : Byte := flagBit d.attention 0 ||| flagBit d.swap 1

/-- How a swap ended, for its reply (R59): the old value where the LOCK_READ was ACKed, whether UNLOCK_WRITE was sent
(DEDUCED, log 18), and the lock-state-unknown indication. -/
structure SwapInfo where
  old         : Option Word := none
  swapped     : Bool := false
  lockUnknown : Bool := false
deriving DecidableEq, Repr

/-- Flags and old value of a swap's reply: bit 0 old value valid, bit 1 swapped, bit 2 lock-state-unknown; the old value
is 0 when not valid (R189). -/
def SwapInfo.bytes (i : SwapInfo) : List Byte :=
  (flagBit i.old.isSome 0 ||| flagBit i.swapped 1 ||| flagBit i.lockUnknown 2) :: bytes32 (i.old.getD 0)

/-- The presence word of a fault record, low byte first (R190): bit 0 lost-oldest, bits 1 to 8 the optional fields. -/
def FaultRecord.presence (r : FaultRecord) : List Byte :=
  [flagBit r.lost 0 ||| flagBit r.slot.isSome 1 ||| flagBit r.epoch.isSome 2 ||| flagBit r.seq.isSome 3 |||
     flagBit r.bridge.isSome 4 ||| flagBit r.moduleAddr.isSome 5 ||| flagBit r.completed.isSome 6 |||
     flagBit r.channel.isSome 7,
   flagBit r.tag.isSome 0]

/-- A fault record in its 26 bytes (R190). -/
def FaultRecord.bytes (r : FaultRecord) : List Byte :=
  bytes32 r.number ++ [r.kind.code] ++ bytes32 r.stamp ++ [r.code.code] ++ r.presence ++
    [(r.slot.map fun i => byteOf i.val).getD 0, r.epoch.getD 0, r.seq.getD 0] ++ bytes32 (r.bridge.getD 0) ++
    bytes24 (r.moduleAddr.getD 0) ++ countBytes (r.completed.getD 0) ++ [r.channel.getD 0, r.tag.getD 0]

/-- The notice mask byte: bit 0 SLOT_STATE, bit 1 FAULT, bit 2 HOLD_END; 1 means enabled (R188). -/
def Notices.maskByte (n : Notices) : Byte :=
  flagBit n.slotEnabled 0 ||| flagBit n.faultEnabled 1 ||| flagBit n.holdEnabled 2

/-- A flag taken over where its change flag is set. -/
def chooseFlag (change value old : Bool) : Bool := if change then value else old

/-- Sixteen flags as a flags word, flag `k` in bit `k`. -/
def wordOfFlags (v : Vector Bool 16) : BitVec 16 :=
  slotIds.foldl (fun w i => if v[i] then w ||| (1#16 <<< i.val) else w) 0#16

end Sys2Proof.Machine
end

