-- ==== Sys2Proof/Machine/Ops.lean ====
section
/-! DEFINITION. The operations the blocks share: reading and writing records, replies, fault records and notices, a
slot's change of state, the arbiter, the use counts of windows and the acceptance of requests. -/

namespace Sys2Proof.Machine

/-! ### Reading and writing records -/

/-- Slot record `i`. -/
def State.slot (s : State) (i : SlotId) : Slot := s.sup.slots[i]

/-- The state with slot record `i` changed. -/
def State.modifySlot (s : State) (i : SlotId) (f : Slot → Slot) : State :=
  { s with sup := { s.sup with slots := s.sup.slots.set i (f s.sup.slots[i]) } }

/-- Window record `w`. -/
def State.window (s : State) (w : WindowId) : Window := s.windows[w]

/-- The state with window record `w` replaced. -/
def State.setWindow (s : State) (w : WindowId) (r : Window) : State :=
  { s with windows := s.windows.set w r }

/-- Page entry `i`; past the map, where no window can point (R10), an INVALID entry. -/
def State.page (s : State) (i : Nat) : PageEntry := s.pages.getD i {}

/-- The state with page entry `i` replaced. -/
def State.setPage (s : State) (i : Nat) (e : PageEntry) : State :=
  { s with pages := s.pages.setIfInBounds i e }

/-- The presence line of a slot. -/
def State.present (s : State) (i : SlotId) : Bool := s.pins.presence[i]

/-- The reset line of a slot is asserted exactly in OFF and RESETTING (R86). -/
def State.resetLine (s : State) (i : SlotId) : Bool :=
  (s.slot i).state = .off || (s.slot i).state = .resetting

/-- The select line of a slot is driven while a transaction to it is in progress (R65, R70). -/
def State.selectLine (s : State) (i : SlotId) : Bool :=
  match s.ctrl.tx with
  | some t => t.slot = i
  | none => false

/-- ACTIVE or LAGGING: the states in which transfers and posts may use a slot (R42, R132). -/
def SlotState.inService : SlotState → Bool
  | .active | .lagging => true
  | _ => false

/-! ### Replies (R172) -/

/-- An owner queues a reply; it is suppressed when its request was accepted in a session that has ended (R172). It joins
a queue of any length, as a resend does (DESIGN CHOICE, log 33). -/
def queueReply (r : ReqId) (st : Status) (body : List Byte) (s : State) : State :=
  if r.session = s.link.session then
    { s with link := { s.link with replies := s.link.replies ++
        [{ seq := r.seq, kind := r.kind, crc := r.crc, status := st, body := body, resend := false }] } }
  else s

/-- The same reply for each of several requests, in their order. -/
def queueReplies (rs : List ReqId) (st : Status) (body : List Byte) (s : State) : State :=
  rs.foldl (fun s r => queueReply r st body s) s

/-- A reply owed to at most one request. -/
def queueOwed (r : Option ReqId) (st : Status) (body : List Byte) (s : State) : State :=
  match r with
  | some r => queueReply r st body s
  | none => s

/-! ### Fault records and notices (R151, R157-R159) -/

/-- A fault record is made (R151): a full list loses its oldest record, the new one takes the next number, the stamp
and the lost-oldest indication, joins the tail, and becomes FAULT pending while FAULT notices are enabled. -/
def makeRecord (r : FaultRecord) (s : State) : State :=
  let full := Config.faultRecords ≤ s.faults.entries.length
  let kept := if full then s.faults.entries.tail else s.faults.entries
  let entry : FaultEntry :=
    { record := { r with number := s.faults.next, stamp := s.stamp, lost := full }, pending := s.notices.faultEnabled }
  { s with faults := { entries := kept ++ [entry], next := s.faults.next + 1, given := true } }

/-- A slot's SLOT_STATE notice is made pending while SLOT_STATE notices are enabled (R157). -/
def noteSlot (i : SlotId) (s : State) : State :=
  if s.notices.slotEnabled then
    { s with notices := { s.notices with slotPending := s.notices.slotPending.set i true } }
  else s

/-- All 16 SLOT_STATE notices are made pending (R111, R112, R162). -/
def noteAllSlots (s : State) : State :=
  if s.notices.slotEnabled then
    { s with notices := { s.notices with slotPending := Vector.replicate 16 true } }
  else s

/-- A HOLD_END frame on the line remembers that the indication has been set again (R160). -/
def Link.holdEndSetAgain (l : Link) : Link :=
  match l.transmitter with
  | some (f, .holdEnd limit _) => { l with transmitter := some (f, .holdEnd limit true) }
  | _ => l

/-- The HOLD_END notice is made pending with a limit while HOLD_END notices are enabled (R159). -/
def noteHoldEnd (limit : Nat) (s : State) : State :=
  if s.notices.holdEnabled then
    { s with notices := { s.notices with holdEnd := some limit }, link := s.link.holdEndSetAgain }
  else s

/-! ### Slot state (R109, R141) -/

/-- A slot changes its state: the last cause, the pending notice (R109), and, when the slot leaves ACTIVE and LAGGING,
the end of its back-off and room wait (R141). -/
def changeState (i : SlotId) (st : SlotState) (cause : LastCause) (s : State) : State :=
  let leaves := (s.slot i).state.inService && !st.inService
  let s := noteSlot i (s.modifySlot i fun r => { r with state := st, lastCause := cause })
  if leaves then
    { s with inb := { s.inb with backOff := s.inb.backOff.set i none, roomWait := s.inb.roomWait.set i none } }
  else s

/-- The slot's items leave the work list (R91). -/
def dropItems (i : SlotId) (s : State) : State :=
  { s with sup := { s.sup with work := s.sup.work.filter fun w => w.slot ≠ i } }

/-- An item joins the work list (R91). -/
def addItem (i : SlotId) (r : WorkRead) (s : State) : State :=
  { s with sup := { s.sup with work := s.sup.work ++ [{ slot := i, read := r }] } }

/-- The counts, attempt cause, fault cause, enrollment step and held descriptor of a slot that is removed, reset or
taken OFF, with its timer as given (R89, R104, R106). -/
def Slot.clearedCounts (r : Slot) (timer : Option SlotTimer) : Slot :=
  { r with lag := 0, skip := 0, silence := 0, attempts := 0, attemptCause := none, faultCause := none, step := .none,
           held := none, timer := timer }

/-- A deferred SLOT_ENROLL reply owed for the slot is queued SLOT_DOWN with the slot's state and fault cause as they
now stand, and is owed no more (R96). -/
def enrollDown (i : SlotId) (s : State) : State :=
  let r := s.slot i
  (queueOwed r.enrollReply .slotDown [r.state.code, causeByte r.faultCause] s).modifySlot i
    fun r => { r with enrollReply := none }

/-! ### The arbiter (R73-R77) -/

/-- Whether a requester is in the waiting set. -/
def Waiting.has (w : Waiting) : Requester → Bool
  | .hold => w.hold
  | .supervise => w.supervise
  | .transfer => w.transfer
  | .inbound => w.inbound

/-- The terms of R132 for a slot. -/
def eligible (s : State) (i : SlotId) : Bool :=
  s.pins.attention[i] && (s.slot i).state.inService && ((s.slot i).descriptor.any fun d => d.attention)
    && !s.inb.masked[i] && (s.inb.backOff[i]).isNone && (s.inb.roomWait[i]).isNone

/-- Whether some slot is eligible. -/
def anyEligible (s : State) : Bool := slotIds.any (eligible s)

/-- The head of the transfer queue is a QUEUED transfer (R42). -/
def headQueued (s : State) : Bool :=
  match s.xfer.queue with
  | .transfer t :: _ => t.state = .queued
  | _ => false

/-- The requests the four requesters have waiting as their rules say: HOLD while PENDING (R115), SUPERVISE while the
work list is not empty (R91), TRANSFER while the head is QUEUED (R42), INBOUND while a slot is eligible and there is no
service or a service's next transaction is due (R130). A grant holder has none waiting (R73), and from the taking of a
bridge reset to its completion nobody has (R81). -/
def wanted (s : State) : Waiting :=
  if s.link.resetTaken then {}
  else
    { hold := s.hold.state = .pending && s.arb.holder ≠ some .hold
      supervise := !s.sup.work.isEmpty && s.arb.holder ≠ some .supervise
      transfer := headQueued s && s.arb.holder ≠ some .transfer
      inbound := (s.inb.service.isSome || anyEligible s) && s.arb.holder ≠ some .inbound }

/-- The arbiter's choice among waiting requests by the order of R75. -/
def choose (w : Waiting) (turn inboundTurn : Nat) : Option Requester :=
  if w.hold then some .hold
  else if w.supervise then some .supervise
  else if w.inbound && inboundTurn ≤ turn then some .inbound
  else if w.transfer then some .transfer
  else if w.inbound then some .inbound
  else none

/-- The choice that stands: a choice made is kept while its request waits; otherwise, at a free backplane, it is made
now (R74, R75). While the backplane is held there is none. -/
def standingChoice (holder choice : Option Requester) (w : Waiting) (turn inboundTurn : Nat) : Option Requester :=
  match holder with
  | some _ => none
  | none =>
    match choice with
    | some r => if w.has r then some r else choose w turn inboundTurn
    | none => choose w turn inboundTurn

/-- The end of an event at the arbiter: requests are placed and withdrawn (R74, R77), an INBOUND request withdrawn
without a grant returns the turn counter to 0 (R76), and at a free backplane the choice is made (R75). -/
def settle (s : State) : State :=
  let w := wanted s
  let turn := if s.arb.waiting.inbound && !w.inbound && s.arb.holder ≠ some .inbound then 0 else s.arb.turn
  { s with arb := { s.arb with waiting := w, turn := turn,
                               choice := standingChoice s.arb.holder s.arb.choice w turn s.params.inboundTurn } }

/-- The turn counter at a grant (R76). -/
def turnAfterGrant (r : Requester) (a : Arb) : Nat :=
  match r with
  | .transfer => if a.waiting.inbound then a.turn + 1 else a.turn
  | .inbound => 0
  | .hold | .supervise => a.turn

/-- Whether the arbiter's choice is this requester, so that its grant step is due. -/
def grantDue (r : Requester) (s : State) : Bool := s.arb.holder = none && s.arb.choice = some r

/-- The grant: the chosen request leaves the waiting set and its requester becomes the holder (R75). -/
def takeGrant (r : Requester) (s : State) : State :=
  let a := s.arb
  { s with arb :=
    { holder := some r, choice := none, turn := turnAfterGrant r a
      waiting :=
        { hold := a.waiting.hold && r ≠ .hold, supervise := a.waiting.supervise && r ≠ .supervise
          transfer := a.waiting.transfer && r ≠ .transfer, inbound := a.waiting.inbound && r ≠ .inbound } } }

/-- A request is withdrawn: a choice of it that has not been taken up is void, and the arbiter chooses anew (R74). -/
def withdrawRequest (r : Requester) (s : State) : State :=
  { s with arb := { s.arb with choice := if s.arb.choice = some r then none else s.arb.choice } }

/-- The holder returns the grant (R77). -/
def returnGrant (s : State) : State := { s with arb := { s.arb with holder := none } }

/-! ### Windows (R4, R7, R15) -/

/-- One past the last bridge address of a window. -/
def Window.limit (w : Window) : Nat := w.base.toNat + 2 ^ w.sizeLog2

/-- A window holds an address (R4). -/
def Window.holds (w : Window) (a : Word) : Bool :=
  w.state = .enabled && w.base.toNat ≤ a.toNat && a.toNat < w.limit

/-- The hit decision (R4). -/
def hit (s : State) (a : Word) : Option WindowId := windowIds.find? fun w => (s.window w).holds a

/-- The use count of a window rises by one (R7). -/
def useWindow (w : WindowId) (s : State) : State :=
  s.setWindow w { s.window w with useCount := (s.window w).useCount + 1 }

/-- The drain of a CLOSING window ends when its use count is 0: the window becomes DISABLED and the deferred
WINDOW_CLEAR is answered OK (R15). -/
def drainEnd (w : WindowId) (s : State) : State :=
  let r := s.window w
  if r.state = .closing ∧ r.useCount = 0 then
    queueOwed r.clearReply .ok [] (s.setWindow w { r with state := .disabled, clearReply := none })
  else s

/-- The use count of a window falls by one, which may end its drain (R7, R15). -/
def releaseWindow (w : WindowId) (s : State) : State :=
  drainEnd w (s.setWindow w { s.window w with useCount := (s.window w).useCount - 1 })

/-! ### Transactions (R65, R66) -/

/-- The number of data words of a transaction (R66). -/
def Tx.wordCount (t : Tx) : Nat := (t.addr.toNat % 4 + t.count + 3) / 4

/-- Whether lane `k` of word `i` of a transaction is enabled: its byte is one of those addressed (R66). -/
def Tx.laneEnabled (t : Tx) (i k : Nat) : Bool :=
  t.addr.toNat % 4 ≤ 4 * i + k && 4 * i + k < t.addr.toNat % 4 + t.count

/-- One data word the controller drives, with its lane enables and parity lines (R66). -/
structure DrivenWord where
  lanes   : List Byte
  enables : List Bool
  parity  : List Bool
deriving DecidableEq, Repr

/-- Word `i` of the write data: disabled lanes carry zero with their parity (R66). -/
def Tx.drivenWord (t : Tx) (i : Nat) : DrivenWord :=
  let ls := [0, 1, 2, 3].map fun k =>
    if t.laneEnabled i k then byteAt t.writeData (4 * i + k - t.addr.toNat % 4) else 0
  { lanes := ls, enables := [0, 1, 2, 3].map (t.laneEnabled i), parity := ls.map oddParityBit }

/-- The words the controller drives for a command that carries data (R66). -/
def Tx.drivenWords (t : Tx) : List DrivenWord :=
  if t.command.carriesData then (List.range t.wordCount).map t.drivenWord else []

/-- The slot's lines let a transaction to it be driven: reset released and presence active (R65). -/
def linesReady (s : State) (i : SlotId) : Bool := !s.resetLine i && s.present i

/-- A transaction is put on the backplane: a command that carries data is in REQUEST until its last word has been
driven, any other enters WAIT at once with the response timer running (R66, R68). -/
def putTx (t : Tx) (s : State) : State :=
  let t := if t.command.carriesData then { t with phase := .request, timer := none }
           else { t with phase := .wait, timer := some s.params.responseTimeout }
  { s with ctrl := { s.ctrl with tx := some t } }

/-- The lock of the target module after a transaction's end (R72). -/
def lockAfter (t : Tx) (r : Result) (l : ModuleLock) : ModuleLock :=
  match t.command, r with
  | .lockRead, .ack => .locked t.addr
  | .unlockWrite, .ack | .unlock, .ack =>
    if l = .locked t.addr ∨ l = .unknown t.addr then .unlocked else l
  | .unlockWrite, .noResponse | .unlock, .noResponse | .unlockWrite, .parity | .unlock, .parity =>
    if l = .locked t.addr then .unknown t.addr else l
  | _, _ => l

/-- The transaction leaves the controller, which is IDLE again (R71); the target module's lock follows R72. -/
def clearTx (t : Tx) (r : Result) (s : State) : State :=
  { s with ctrl := { s.ctrl with tx := none },
           modules := s.modules.set t.slot (lockAfter t r s.modules[t.slot]) }

/-- A module that is reset or removed holds no lock (R72). -/
def unlockModule (i : SlotId) (s : State) : State := { s with modules := s.modules.set i .unlocked }

/-! ### Acceptance of requests (R169-R173) -/

/-- The request frame of a kind, sequence and payload. -/
def requestFrame (kind seq : Byte) (payload : List Byte) : Frame :=
  { cls := .request, kind := kind, seq := seq, payload := payload }

/-- What R169 makes of a request. -/
inductive Acceptance where
  | discarded
  | resent (e : CacheEntry)
  | overloaded
  | accepted
deriving DecidableEq, Repr

/-- The examination of R169 against the phase, the reply cache and the unreplied requests, in its order. In BREAK the
framer receives nothing (R166). -/
def examine (kind seq : Byte) (crc : BitVec 16) (l : Link) : Acceptance :=
  if l.phase ≠ .opened then .discarded
  else
    match l.cache.find? fun e => e.seq = seq ∧ e.kind = kind ∧ e.crc = crc with
    | some e => .resent e
    | none =>
      if l.unreplied.any fun r => r.seq = seq then .discarded
      else if Config.unrepliedRequests ≤ l.unreplied.length then .overloaded
      else .accepted

/-- The stale cache entry of a sequence leaves the cache (R169). -/
def Link.dropStale (l : Link) (seq : Byte) : Link :=
  { l with cache := l.cache.filter fun e => e.seq ≠ seq }

/-- A copy of a cached reply joins the reply queue unless one already waits (R173). It joins a queue of any length
(DESIGN CHOICE, log 33): R172 counts at most 16 replies, but the copies of entries that have left the cache still wait
beside those of newer entries, and the manual gives no act for the reply that would be the 17th. -/
def Link.resend (l : Link) (e : CacheEntry) : Link :=
  if l.replies.any fun r => r.resend ∧ r.seq = e.seq ∧ r.kind = e.kind ∧ r.crc = e.crc then l
  else
    { l with replies := l.replies ++
        [{ seq := e.seq, kind := e.kind, crc := e.crc, status := e.status, body := e.body, resend := true }] }

/-- The link after a request has been accepted: a stale cache entry has left (R169) and the request is among the
unreplied (R170). -/
def Link.accept (l : Link) (r : ReqId) : Link :=
  let l := l.dropStale r.seq
  { l with unreplied := l.unreplied ++ [r] }

/-- The record of a request that arrives now. -/
def reqId (kind seq : Byte) (payload : List Byte) (s : State) : ReqId :=
  { seq := seq, kind := kind, crc := (requestFrame kind seq payload).crc, session := s.link.session }

/-- A request that the framer passes on is examined (R169): it is discarded, answered from the cache, answered OVERLOAD
(R171), or accepted and handed to its owner (R170). -/
def handOn (kind seq : Byte) (payload : List Byte) (owner : ReqId → State → State) (s : State) : State :=
  let r := reqId kind seq payload s
  match examine kind seq r.crc s.link with
  | .discarded => s
  | .resent e => { s with link := s.link.resend e }
  | .overloaded => { s with link := { s.link.dropStale seq with overload := some (seq, kind) } }
  | .accepted => owner r { s with link := s.link.accept r }

end Sys2Proof.Machine
end

