-- ==== Sys2Proof/WellFormed.lean ====
section
/-! DEFINITION. Which terms of `Instr` are commands the part can receive. A request is a frame whose check passed
(R168), so its payload is at most 4160 bytes long (R167), and UNKNOWN_KIND_REQUEST carries a kind code that names no
request (R170). `exec` is total on the other terms too (DEDUCED, logs 12 and 26). -/

namespace Sys2Proof

open Machine

/-- The kind code, sequence and payload of a command that is a request frame; `none` for an event. -/
def Instr.request : Instr → Option (Byte × Byte × List Byte)
  | .unknownKindRequest kind seq payload => some (kind, seq, payload)
  | .windowSet seq payload => some (Kind.windowSet, seq, payload)
  | .windowClear seq payload => some (Kind.windowClear, seq, payload)
  | .windowGet seq payload => some (Kind.windowGet, seq, payload)
  | .pageWrite seq payload => some (Kind.pageWrite, seq, payload)
  | .pageRead seq payload => some (Kind.pageRead, seq, payload)
  | .pageSweep seq payload => some (Kind.pageSweep, seq, payload)
  | .accessRead seq payload => some (Kind.accessRead, seq, payload)
  | .accessWrite seq payload => some (Kind.accessWrite, seq, payload)
  | .accessSwap seq payload => some (Kind.accessSwap, seq, payload)
  | .accessFence seq payload => some (Kind.accessFence, seq, payload)
  | .accessAbort seq payload => some (Kind.accessAbort, seq, payload)
  | .slotGet seq payload => some (Kind.slotGet, seq, payload)
  | .slotEnroll seq payload => some (Kind.slotEnroll, seq, payload)
  | .slotReset seq payload => some (Kind.slotReset, seq, payload)
  | .slotOff seq payload => some (Kind.slotOff, seq, payload)
  | .slotOn seq payload => some (Kind.slotOn, seq, payload)
  | .holdAcquire seq payload => some (Kind.holdAcquire, seq, payload)
  | .holdCycle seq payload => some (Kind.holdCycle, seq, payload)
  | .holdRelease seq payload => some (Kind.holdRelease, seq, payload)
  | .postCredit seq payload => some (Kind.postCredit, seq, payload)
  | .attentionMask seq payload => some (Kind.attentionMask, seq, payload)
  | .faultRead seq payload => some (Kind.faultRead, seq, payload)
  | .faultClear seq payload => some (Kind.faultClear, seq, payload)
  | .noticeMask seq payload => some (Kind.noticeMask, seq, payload)
  | .echo seq payload => some (Kind.echo, seq, payload)
  | .configGet seq payload => some (Kind.configGet, seq, payload)
  | .configSet seq payload => some (Kind.configSet, seq, payload)
  | .bridgeReset seq payload => some (Kind.bridgeReset, seq, payload)
  | .powerOn _ => none
  | .breakBegin => none
  | .breakEnd => none
  | .frameDiscard _ => none
  | .outputFrameBegin => none
  | .frameSent => none
  | .bridgeResetComplete => none
  | .transferGrant => none
  | .superviseGrant => none
  | .inboundGrant => none
  | .holdGrant => none
  | .responseCodeArrives _ _ => none
  | .readDataWordArrives _ _ => none
  | .responseTimerExpiry => none
  | .retryDelayExpiry => none
  | .swapResendDelayExpiry => none
  | .settleTimerExpiry _ => none
  | .attemptGapExpiry _ => none
  | .checkTimerExpiry _ => none
  | .pulseTimerExpiry _ => none
  | .limitTimerExpiry => none
  | .backOffExpiry _ => none
  | .stampTick => none
  | .presenceActive _ => none
  | .presenceInactive _ => none
  | .attentionChange _ _ => none
  | .windowDrainEnd _ => none
  | .fenceAtHead => none
  | .holdEnds => none
  | .requestDriven => none

/-- An UNKNOWN_KIND_REQUEST carries a kind code that names no request (R170). -/
def Instr.kindGood : Instr → Bool
  | .unknownKindRequest kind _ _ => !namesRequest kind
  | _ => true

/-- A command the part can receive: a payload of at most 4160 bytes and a kind code of its own. -/
def Instr.wf (c : Instr) : Bool :=
  (match c.request with
    | some (_, _, payload) => decide (payload.length ≤ Config.payloadBytes)
    | none => true) && c.kindGood

end Sys2Proof
end

