-- ==== Sys2Proof/Decode.lean ====
section
/-! DEFINITION. Commands from bits. The table of this block gives no row any bits (opcode_table.json lists 59 rows, all
with no fields), so no table word spells a command. What does have an encoding is a host request: it arrives as a frame
(R167, R186), and `readFrame` reads the command from a frame's bytes. -/

namespace Sys2Proof

open Machine

/-- No row of the table has bits, so no word spells a command (DESIGN CHOICE, log 27). -/
def decodeTableWord (_nbits _w : Nat) : Option Instr := none

/-- The command that a kind code, a sequence byte and a payload make (R186); a code that names no request makes
UNKNOWN_KIND_REQUEST (R170). -/
def commandOf (kind seq : Byte) (payload : List Byte) : Instr :=
  if kind = Kind.windowSet then .windowSet seq payload
  else if kind = Kind.windowClear then .windowClear seq payload
  else if kind = Kind.windowGet then .windowGet seq payload
  else if kind = Kind.pageWrite then .pageWrite seq payload
  else if kind = Kind.pageRead then .pageRead seq payload
  else if kind = Kind.pageSweep then .pageSweep seq payload
  else if kind = Kind.accessRead then .accessRead seq payload
  else if kind = Kind.accessWrite then .accessWrite seq payload
  else if kind = Kind.accessSwap then .accessSwap seq payload
  else if kind = Kind.accessFence then .accessFence seq payload
  else if kind = Kind.accessAbort then .accessAbort seq payload
  else if kind = Kind.slotGet then .slotGet seq payload
  else if kind = Kind.slotEnroll then .slotEnroll seq payload
  else if kind = Kind.slotReset then .slotReset seq payload
  else if kind = Kind.slotOff then .slotOff seq payload
  else if kind = Kind.slotOn then .slotOn seq payload
  else if kind = Kind.holdAcquire then .holdAcquire seq payload
  else if kind = Kind.holdCycle then .holdCycle seq payload
  else if kind = Kind.holdRelease then .holdRelease seq payload
  else if kind = Kind.postCredit then .postCredit seq payload
  else if kind = Kind.attentionMask then .attentionMask seq payload
  else if kind = Kind.faultRead then .faultRead seq payload
  else if kind = Kind.faultClear then .faultClear seq payload
  else if kind = Kind.noticeMask then .noticeMask seq payload
  else if kind = Kind.echo then .echo seq payload
  else if kind = Kind.configGet then .configGet seq payload
  else if kind = Kind.configSet then .configSet seq payload
  else if kind = Kind.bridgeReset then .bridgeReset seq payload
  else .unknownKindRequest kind seq payload

/-- The request a frame's bytes carry: sync, class REQUEST, kind, sequence, length, payload and a CRC that matches
(R167, R168, R186); `none` for bytes that are not exactly one good request frame. -/
def readFrame : List Byte → Option Instr
  | sync :: cls :: kind :: seq :: l0 :: l1 :: rest =>
    let n := (le16 l0 l1).toNat
    let payload := rest.take n
    if sync = 0x5A ∧ cls = FrameClass.request.code ∧ n ≤ Config.payloadBytes ∧ rest.length = n + 2 ∧
        crc16 ([cls, kind, seq, l0, l1] ++ payload) = le16 (byteAt rest n) (byteAt rest (n + 1)) then
      some (commandOf kind seq payload)
    else none
  | _ => none

/-- The frame that carries a request to the part (R167, R186); no bytes for an event. -/
def writeFrame (c : Instr) : List Byte :=
  match c.request with
  | some (kind, seq, payload) => (requestFrame kind seq payload).bytes
  | none => []

end Sys2Proof
end

