-- ==== Sys2Proof/Machine/Framer.lean ====
section
/-! DEFINITION. Characters on a line (R165) and the receive framer (R168). The framer keeps the bytes of the frame in
progress from its sync byte on; a frame that ends is left as R168's table says, and hunting goes on in what was received
after it. -/

namespace Sys2Proof.Machine

/-! ### Characters (R165) -/

/-- The levels of a byte's character: a low start bit, the eight data bits, least significant first, and a high stop
bit. -/
def charLevels (b : Byte) : LineChar := ((1#1 ++ b : BitVec 9) ++ 0#1 : BitVec 10)

/-- A received character: a byte, or a framing error. -/
inductive RxChar where
  | byte (b : Byte)
  | framingError
deriving DecidableEq, Repr

/-- What the receiver makes of ten levels: a character whose stop bit is low is a framing error; with no low start bit
there is no character, since the line rests high. -/
def receiveChar (c : LineChar) : Option RxChar :=
  if c.getLsbD 0 then none
  else if c.getLsbD 9 then some (.byte (c.extractLsb' 1 8))
  else some .framingError

/-- The low levels a group of ten begins with. -/
def lowAtStart (c : LineChar) : Nat := ((List.range 10).takeWhile fun k => !c.getLsbD k).length

/-- The low levels a group of ten ends with. -/
def lowAtEnd (c : LineChar) : Nat := ((List.range 10).takeWhile fun k => !c.getLsbD (9 - k)).length

/-- The low run of the line after a further group: one all low goes on with it, and a high level ends it. -/
def runAfter (run : Nat) (c : LineChar) : Nat := if c = 0 then run + 10 else lowAtEnd c

/-- The characters of a frame, back to back. -/
def Frame.line (f : Frame) : List LineChar := f.bytes.map charLevels

/-! ### The framer (R168) -/

/-- What the framer finds about the characters after a sync byte. -/
inductive FrameFinding where
  /-- The frame has not ended yet. -/
  | incomplete
  /-- Discarded; hunting resumes at the character after the frame's sync byte. -/
  | resync
  /-- Discarded; hunting resumes `n` characters after the sync byte. -/
  | skip (n : Nat)
  /-- CRC good, class REQUEST: passed on as a request of `n` characters after the sync byte. -/
  | request (n : Nat)
deriving DecidableEq, Repr

/-- The bytes of a run of characters up to its first framing error. -/
def goodBytes : List RxChar → List Byte
  | .byte b :: cs => b :: goodBytes cs
  | _ => []

/-- The payload length a frame header gives, from the bytes after the sync byte. -/
def headerLength (bs : List Byte) : Nat := (le16 (byteAt bs 3) (byteAt bs 4)).toNat

/-- The finding of R168's table for the characters after a sync byte. -/
def findFrame (cs : List RxChar) : FrameFinding :=
  let bs := goodBytes cs
  let n := headerLength bs
  if 5 ≤ bs.length ∧ n > Config.payloadBytes then .resync
  else if 5 ≤ bs.length ∧ 7 + n ≤ bs.length then
    let covered := bs.take (5 + n)
    if crc16 covered ≠ le16 (byteAt bs (5 + n)) (byteAt bs (6 + n)) then .resync
    else if byteAt bs 0 ≠ FrameClass.request.code then .skip (7 + n)
    else .request (7 + n)
  else if bs.length < cs.length then .skip (bs.length + 1)
  else .incomplete

/-- A request as the framer passes it on (R168). -/
structure RxRequest where
  kind    : Byte
  seq     : Byte
  payload : List Byte
deriving DecidableEq, Repr

/-- The request of a good frame, from the bytes after its sync byte (R167). -/
def requestOf (bs : List Byte) : RxRequest :=
  { kind := byteAt bs 1, seq := byteAt bs 2, payload := (bs.drop 5).take (headerLength bs) }

/-- What the framer makes of a run of characters: the requests it passes on, in the order their frames ended, and where
it stands afterwards. -/
structure Heard where
  requests : List RxRequest := []
  framer   : Framer := .hunt
deriving DecidableEq, Repr

/-- The framer hunting through characters, the first `n` of them passed over: every character is passed over until a
sync byte begins a frame (R168). -/
def huntFrom : Nat → List RxChar → Heard
  | _, [] => {}
  | n + 1, _ :: cs => huntFrom n cs
  | 0, .byte b :: cs =>
    if b = 0x5A then
      match findFrame cs with
      | .incomplete => { framer := .frame (b :: goodBytes cs) }
      | .resync => huntFrom 0 cs
      | .skip n => huntFrom n cs
      | .request n =>
        let h := huntFrom n cs
        { h with requests := requestOf (goodBytes cs) :: h.requests }
    else huntFrom 0 cs
  | 0, .framingError :: cs => huntFrom 0 cs

/-- The bytes the framer holds. -/
def Framer.held : Framer → List Byte
  | .hunt => []
  | .frame bs => bs

/-- The framer takes further characters: those of a frame in progress are its continuation (R168). -/
def Framer.hear (f : Framer) (cs : List RxChar) : Heard := huntFrom 0 (f.held.map .byte ++ cs)

end Sys2Proof.Machine
end

