-- ==== Sys2Proof/Machine/HoldUnit.lean ====
section
/-! DEFINITION. The hold unit's own operations (chapter 6): running its cycles and ending a hold. Its requests and its
grant stand in Hold.lean. -/

namespace Sys2Proof.Machine

/-- The transaction a HOLD_CYCLE hands the controller, exactly as its fields name it (R118). -/
def Cycle.tx (c : Cycle) : Tx :=
  { requester := .hold, command := c.command, slot := c.slot, addr := c.addr, count := c.count, writeData := c.data }

/-- The reply of a HOLD_CYCLE: OK, the raw result, and the data of an ACKed READ or LOCK_READ (R118, R189). -/
def answerCycle (c : Cycle) (r : Result) (data : List Byte) (s : State) : State :=
  queueReply c.req .ok (r.code :: if r = .ack ∧ c.command.returnsData then data else []) s

/-- The end of a hold, in the order of R121: NOT_HELD to the queued cycles, OK to an owed release, HOLD_END pending when
the end cause is EXPIRY (R122), and IDLE with the grant returned. -/
def endHold (s : State) : State :=
  let s := queueReplies (s.hold.cycles.map Cycle.req) .notHeld [] s
  let s := queueOwed s.hold.releaseReply .ok [] s
  let s := if s.hold.endCause = some .expiry then noteHoldEnd (s.hold.limit.getD 0) s else s
  returnGrant
    { s with hold := { s.hold with state := .idle, limit := none, limitTimer := none, endCause := none,
                                   releaseReply := none, cycles := [] } }

/-- A hold whose end cause is set and that has no cycle in progress ends (R121). -/
def holdMayEnd (s : State) : State :=
  if s.hold.state = .held ∧ s.hold.endCause.isSome ∧ s.hold.cycle.isNone then endHold s else s

/-- The first of these cycles becomes the cycle in progress and its transaction starts (R117); a cycle whose slot's
lines are not ready ends ABSENT at its start and is answered at once (R65, R118), and the next one follows. -/
def startCycles : List Cycle → State → State
  | [], s => { s with hold := { s.hold with cycle := none, cycles := [] } }
  | c :: cs, s =>
    if linesReady s c.slot then
      putTx c.tx { s with hold := { s.hold with cycle := some c, cycles := cs } }
    else startCycles cs (answerCycle c .absent [] (clearTx c.tx .absent s))

/-- The result of the cycle in progress reaches the hold unit: the cycle is answered, and then the hold ends if it is
ending, or the next queued cycle starts (R117, R118, R121). -/
def cycleResult (r : Result) (data : List Byte) (s : State) : State :=
  match s.hold.cycle with
  | none => s
  | some c =>
    let s := answerCycle c r data { s with hold := { s.hold with cycle := none } }
    if s.hold.endCause.isSome then holdMayEnd s else startCycles s.hold.cycles s

end Sys2Proof.Machine
end

