-- ==== Sys2Proof/Machine/Supervisor.lean ====
section
/-! DEFINITION. The slot supervisor (chapter 5): removal, enrollment, heartbeat checks, the silence count and FAULTED.
The slot requests stand in SlotRequests.lean. -/

namespace Sys2Proof.Machine

/-! ### FAULTED and removal -/

/-- A slot enters FAULTED (R103). -/
def enterFaulted (i : SlotId) (cause : SlotCause) (s : State) : State :=
  let s := s.modifySlot i fun r => { r with faultCause := some cause, timer := none, step := .none, held := none }
  let s := dropItems i s
  let s := makeRecord { kind := .slot, code := .slot cause, slot := some i, epoch := some (s.slot i).epoch } s
  enrollDown i (changeState i .faulted .fault s)

/-- The states from which the loss of presence is a removal (R89). -/
def SlotState.removable : SlotState → Bool
  | .present | .enrolling | .active | .lagging | .faulted => true
  | .off | .empty | .settling | .resetting => false

/-- A removal: the slot enters EMPTY (R89). -/
def removeSlot (i : SlotId) (s : State) : State :=
  let s := dropItems i (s.modifySlot i fun r => r.clearedCounts none)
  enrollDown i (changeState i .empty .removed s)

/-- A slot enters SETTLING with its settle timer started with SETTLE_TIME (R87, R105, R107). -/
def enterSettling (i : SlotId) (cause : LastCause) (s : State) : State :=
  changeState i .settling cause
    (s.modifySlot i fun r => { r with timer := some { kind := .settle, ms := s.params.settleTime } })

/-- A slot whose reset line has just been released is sampled: SETTLING with presence, EMPTY without (R105, R107). -/
def samplePresence (i : SlotId) (cause : LastCause) (s : State) : State :=
  if s.present i then enterSettling i cause s
  else changeState i .empty cause (s.modifySlot i fun r => { r with timer := none })

/-! ### Enrollment (R92-R96) -/

/-- An enrollment attempt begins (R92). -/
def beginAttempt (i : SlotId) (s : State) : State :=
  addItem i .descriptor
    (s.modifySlot i fun r => { r with attempts := r.attempts + 1, step := .descriptorRead, timer := none })

/-- A slot enters ENROLLING and its first attempt begins (R92). -/
def beginEnrollment (i : SlotId) (cause : LastCause) (s : State) : State :=
  beginAttempt i
    (changeState i .enrolling cause
      (s.modifySlot i fun r => { r with attempts := 0, attemptCause := none, timer := none }))

/-- An attempt fails: another one follows after the gap, or the slot is FAULTED (R95). -/
def failAttempt (i : SlotId) (cause : SlotCause) (s : State) : State :=
  let s := s.modifySlot i fun r => { r with attemptCause := some cause, held := none }
  if (s.slot i).attempts < s.params.enrollAttempts then
    s.modifySlot i fun r => { r with step := .none, timer := some { kind := .gap, ms := Config.attemptGap } }
  else enterFaulted i cause s

/-- The descriptor fields of 64 bytes (R192). -/
def descriptorOf (bs : List Byte) : Descriptor :=
  { cls := byteAt bs 3, revision := byteAt bs 4, attention := (byteAt bs 5).getLsbD 0, swap := (byteAt bs 5).getLsbD 1
    spaceLog2 := (byteAt bs 6).toNat, heartbeatAddr := le24 (byteAt bs 7) (byteAt bs 8) (byteAt bs 9)
    postAddr := le24 (byteAt bs 10) (byteAt bs 11) (byteAt bs 12)
    maxPost := (le16 (byteAt bs 13) (byteAt bs 14)).toNat }

/-- The layout checks of R93. -/
def Descriptor.layoutGood (d : Descriptor) : Bool :=
  12 ≤ d.spaceLog2 && d.spaceLog2 ≤ 24 && d.heartbeatAddr.toNat % 4 = 0
    && d.heartbeatAddr.toNat + 4 ≤ 2 ^ d.spaceLog2
    && (if d.attention then
          d.postAddr.toNat % 4 = 0 && d.postAddr.toNat + 264 ≤ 2 ^ d.spaceLog2 && 1 ≤ d.maxPost && d.maxPost ≤ 256
        else d.maxPost ≤ 256)

/-- The sum of bytes mod 256 (R93). -/
def byteSum (bs : List Byte) : Byte := bs.foldl (· + ·) 0

/-- The validation of a descriptor, in the order of R93: the descriptor, or the cause of the first check that fails. -/
def validateDescriptor (bs : List Byte) : Except SlotCause Descriptor :=
  if ¬(byteAt bs 0 = 0x52 ∧ byteAt bs 1 = 0x42 ∧ byteAt bs 2 = 1) then .error .enrollBadMarker
  else if byteSum bs ≠ 0 then .error .enrollBadChecksum
  else if (descriptorOf bs).layoutGood then .ok (descriptorOf bs) else .error .enrollBadLayout

/-- The check timer of a slot that starts one, absent while CHECK_INTERVAL is 0 (R97). -/
def checkTimer (p : Params) : Option SlotTimer :=
  if p.checkInterval = 0 then none else some { kind := .check, ms := p.checkInterval }

/-- The enrollment succeeds (R94). -/
def enrollSucceeds (i : SlotId) (d : Descriptor) (word : Word) (s : State) : State :=
  let s := s.modifySlot i fun r =>
    { r with descriptor := some d, held := none, heartbeat := word, epoch := r.epoch + 1, lag := 0, skip := 0,
             silence := 0, attemptCause := none, step := .none, timer := checkTimer s.params }
  let s := changeState i .active .enrolled s
  (queueOwed (s.slot i).enrollReply .ok [(s.slot i).epoch] s).modifySlot i fun r => { r with enrollReply := none }

/-! ### Heartbeat checks (R97-R100) -/

/-- A failed check acts on the lag count by the slot's state (R100). -/
def failCheck (i : SlotId) (s : State) : State :=
  match (s.slot i).state with
  | .active =>
    let s := s.modifySlot i fun r => { r with lag := 1 }
    if 1 < s.params.lagLimit then changeState i .lagging .lag s else enterFaulted i .lagging s
  | .lagging =>
    let s := s.modifySlot i fun r => { r with lag := r.lag + 1 }
    if s.params.lagLimit ≤ (s.slot i).lag then enterFaulted i .lagging s else s
  | _ => s

/-- A good check (R98). -/
def passCheck (i : SlotId) (word : Word) (s : State) : State :=
  let s := s.modifySlot i fun r => { r with heartbeat := word, lag := 0, skip := 0 }
  if (s.slot i).state = .lagging then changeState i .active .recovered s else s

/-- A skipped check is counted for its slot (R99). -/
def skipCheck (i : SlotId) (s : State) : State :=
  if (s.slot i).skip < s.params.skipAllowance then s.modifySlot i fun r => { r with skip := r.skip + 1 }
  else failCheck i (s.modifySlot i fun r => { r with skip := 0 })

/-- The word of 4 bytes read (R98, R94). -/
def readWord (bs : List Byte) : Word := le32 (byteAt bs 0) (byteAt bs 1) (byteAt bs 2) (byteAt bs 3)

/-- A check read's result is judged while the slot is ACTIVE or LAGGING; ABSENT is not judged (R98). -/
def judgeCheck (i : SlotId) (r : Result) (data : List Byte) (s : State) : State :=
  if (s.slot i).state.inService then
    match r with
    | .absent => s
    | .ack =>
      if readWord data ≠ (s.slot i).heartbeat then passCheck i (readWord data) s
      else failCheck i (s.modifySlot i fun r => { r with skip := 0 })
    | _ => failCheck i (s.modifySlot i fun r => { r with skip := 0 })
  else s

/-- At the grant to HOLD every CHECK item leaves the work list and is counted as a skip, oldest first (R99). -/
def skipItems (s : State) : State :=
  let checks := s.sup.work.filter fun w => w.read = .check
  let s := { s with sup := { s.sup with work := s.sup.work.filter fun w => w.read ≠ .check } }
  checks.foldl (fun s w => skipCheck w.slot s) s

/-- A check read to the slot is on the backplane (R97): a SUPERVISE transaction to a slot with no enrollment step. -/
def checkOnBackplane (i : SlotId) (s : State) : Bool :=
  match s.ctrl.tx with
  | some t => t.requester = .supervise && t.slot = i && (s.slot i).step = .none
  | none => false

/-- A check falls due: skipped while HELD, merged with a pending one, or added to the work list (R97). -/
def checkDue (i : SlotId) (s : State) : State :=
  if s.hold.state = .held then skipCheck i s
  else if (s.sup.work.any fun w => w.slot = i ∧ w.read = .check) || checkOnBackplane i s then s
  else addItem i .check s

/-! ### Results (R71, R90, R101, R102) -/

/-- The supervisor takes the result of a transaction of SUPERVISE, TRANSFER or INBOUND: a removal on ABSENT with
presence inactive (R90), the silence count (R101) and the SILENT fault (R102). -/
def superviseTakes (i : SlotId) (r : Result) (s : State) : State :=
  match r with
  | .absent => if !s.present i && (s.slot i).state.removable then removeSlot i s else s
  | .noResponse =>
    let s := s.modifySlot i fun r => { r with silence := min (r.silence + 1) 15 }
    if (s.slot i).state.inService ∧ s.params.silenceLimit ≤ (s.slot i).silence then enterFaulted i .silent s else s
  | _ => s.modifySlot i fun r => { r with silence := 0 }

/-- An ACKed descriptor read is validated; on success the BASELINE_READ joins the work list (R93). -/
def judgeDescriptor (i : SlotId) (data : List Byte) (s : State) : State :=
  match validateDescriptor data with
  | .error c => failAttempt i c s
  | .ok d => addItem i .baseline (s.modifySlot i fun r => { r with held := some d, step := .baselineRead })

/-- The supervisor acts as the requester on the result of its own read, by the slot's enrollment step (R91). A slot
that the silence count has just faulted is left alone, and an ABSENT result has nothing left to act on (R92). -/
def superviseResult (i : SlotId) (r : Result) (data : List Byte) (s : State) : State :=
  if (s.slot i).state = .faulted ∨ r = .absent then s
  else
    match (s.slot i).step with
    | .descriptorRead => if r = .ack then judgeDescriptor i data s else failAttempt i .enrollNoResponse s
    | .baselineRead =>
      match r, (s.slot i).held with
      | .ack, some d => enrollSucceeds i d (readWord data) s
      | _, _ => failAttempt i .enrollNoResponse s
    | .none => judgeCheck i r data s

end Sys2Proof.Machine
end

