-- ==== Sys2Proof/Machine/InboundEngine.lean ====
section
/-! DEFINITION. The inbound engine (chapter 7): room, selection, and the results of a service's transactions. -/

namespace Sys2Proof.Machine

/-! ### Room (R129, R137) -/

/-- The sum of the lengths of the posts in the queue (R129). -/
def Inbound.queuedBytes (b : Inbound) : Nat := (b.posts.map fun p => p.body.length).sum

/-- The free room of the staging store (R129). -/
def Inbound.freeRoom (b : Inbound) : Nat := Config.stagingBytes - b.queuedBytes - b.reserved

/-- There is room for a post of a length (R137). -/
def Inbound.hasRoom (b : Inbound) (length : Nat) : Bool := b.posts.length < Config.posts && length ≤ b.freeRoom

/-- A room event: every room wait that the new room suffices for ends (R137). -/
def roomEvent (s : State) : State :=
  { s with inb := { s.inb with roomWait := s.inb.roomWait.map fun w =>
      match w with
      | some n => if s.inb.hasRoom n then none else some n
      | none => none } }

/-! ### The end of a service -/

/-- The service ends. -/
def endService (s : State) : State := { s with inb := { s.inb with service := none } }

/-- The service record replaced. -/
def setService (v : Service) (s : State) : State := { s with inb := { s.inb with service := some v } }

/-- The partial body is discarded and its reservation released, which is a room event when there was one (R129). -/
def releaseReservation (s : State) : State :=
  if s.inb.reserved = 0 then s else roomEvent { s with inb := { s.inb with reserved := 0 } }

/-- The service is dropped without a record (R141). -/
def dropService (s : State) : State := releaseReservation (endService s)

/-- The duration of a back-off (R142). -/
def backOffTime (p : Params) : Nat := if p.checkInterval = 0 then Config.backOffWithoutChecks else p.checkInterval

/-- A slot that is still ACTIVE or LAGGING backs off (R142). -/
def startBackOff (i : SlotId) (s : State) : State :=
  if (s.slot i).state.inService then
    { s with inb := { s.inb with backOff := s.inb.backOff.set i (some (backOffTime s.params)) } }
  else s

/-- The status of a failed service transaction (R140). -/
def Result.inboundStatus : Result → Status
  | .retry => .retryExhausted
  | .reject => .rejected
  | .dataError | .parity => .parity
  | .noResponse => .noResponse
  | .ack => .ok
  | .absent => .slotDown

/-- An INBOUND fault record (R140, R136, R134): channel and tag once the header has been read. -/
def inboundRecord (v : Service) (code : FaultCode) (addr : ModAddr) (headerRead : Bool) (s : State) : State :=
  makeRecord { kind := .inbound, code := code, slot := some v.slot, epoch := some v.epoch, moduleAddr := some addr
               channel := if headerRead then some v.channel else none
               tag := if headerRead then some v.tag else none } s

/-- A failed post (R140). -/
def failPost (v : Service) (r : Result) (addr : ModAddr) (s : State) : State :=
  startBackOff v.slot (inboundRecord v (.status r.inboundStatus) addr true (dropService s))

/-! ### Addresses of a service (R134, R138, R139) -/

/-- The take word's address A + 260. -/
def Service.takeAddr (v : Service) : ModAddr := v.postAddr + 260#24

/-- The address of the next body read. -/
def Service.bodyAddr (v : Service) : ModAddr := v.postAddr + 4#24 + BitVec.ofNat 24 v.body.length

/-- The count of the next body read: to the end of its module line or of the body (R138). -/
def Service.bodyCount (v : Service) : Nat := min (64 - v.bodyAddr.toNat % 64) (v.length - v.body.length)

/-- The transaction of the service's step. -/
def Service.tx (v : Service) : Tx :=
  match v.step with
  | .header => { requester := .inbound, command := .read, slot := v.slot, addr := v.postAddr, count := 4 }
  | .body => { requester := .inbound, command := .read, slot := v.slot, addr := v.bodyAddr, count := v.bodyCount }
  | .take | .discardTake =>
    { requester := .inbound, command := .write, slot := v.slot, addr := v.takeAddr, count := 4
      writeData := [v.tag, 0, 0, 0] }

/-! ### Results (R134-R140) -/

/-- The longest post the slot's descriptor copy admits. -/
def maxPost (i : SlotId) (s : State) : Nat :=
  match (s.slot i).descriptor with
  | some d => d.maxPost
  | none => 0

/-- The header of a post is judged: empty (R135), refused (R136), or checked for room (R137). -/
def judgeHeader (v : Service) (data : List Byte) (s : State) : State :=
  let v := { v with length := (le16 (byteAt data 0) (byteAt data 1)).toNat, channel := byteAt data 2,
                    tag := byteAt data 3 }
  if v.length = 0 then startBackOff v.slot (endService s)
  else if Config.postBytes < v.length ∨ maxPost v.slot s < v.length then
    setService { v with step := .discardTake } (inboundRecord v .badLength v.postAddr true s)
  else if s.inb.hasRoom v.length then
    setService { v with step := .body, body := [] } { s with inb := { s.inb with reserved := v.length } }
  else
    let s := endService s
    { s with inb := { s.inb with roomWait := s.inb.roomWait.set v.slot (some v.length) } }

/-- The post is taken: it joins the post queue with the next post number and the stamp (R139). -/
def takePost (v : Service) (s : State) : State :=
  { s with inb := { s.inb with
      posts := s.inb.posts ++
        [{ number := s.inb.nextNumber, slot := v.slot, epoch := v.epoch, channel := v.channel, tag := v.tag
           body := v.body, stamp := s.stamp }]
      nextNumber := s.inb.nextNumber + 1, reserved := 0, service := none } }

/-- The inbound engine acts on the result of its transaction, by the service's step. -/
def serviceResult (v : Service) (r : Result) (data : List Byte) (s : State) : State :=
  if r = .absent then dropService s
  else
    match v.step with
    | .header =>
      match r with
      | .ack => judgeHeader v data s
      | .retry => startBackOff v.slot (endService s)
      | r => startBackOff v.slot (inboundRecord v (.status r.inboundStatus) v.postAddr false (endService s))
    | .body =>
      if r = .ack then
        let v := { v with body := v.body ++ data }
        setService (if v.body.length = v.length then { v with step := .take } else v) s
      else failPost v r v.bodyAddr s
    | .take => if r = .ack then takePost v s else failPost v r v.takeAddr s
    | .discardTake =>
      if r = .ack then endService s
      else startBackOff v.slot (inboundRecord v (.status r.inboundStatus) v.takeAddr true (endService s))

/-- The inbound engine receives the result of its transaction. -/
def inboundResult (r : Result) (data : List Byte) (s : State) : State :=
  match s.inb.service with
  | some v => serviceResult v r data s
  | none => s

/-! ### Selection (R133) -/

/-- The slots from the pointer on, mod 16 (R133). -/
def searchOrder (pointer : SlotId) : List SlotId := slotIds.map fun k => pointer + k

/-- The slot a selection takes. -/
def selectSlot (s : State) : Option SlotId := (searchOrder s.inb.pointer).find? (eligible s)

/-- The new service of a selected slot (R133). -/
def newService (i : SlotId) (s : State) : Service :=
  { slot := i, epoch := (s.slot i).epoch, step := .header
    postAddr := match (s.slot i).descriptor with
      | some d => d.postAddr
      | none => 0 }

/-- A slot is selected: the pointer moves past it and its service is made (R133). -/
def selectService (i : SlotId) (s : State) : State :=
  { s with inb := { s.inb with pointer := i + 1, service := some (newService i s) } }

/-- The check of a service's slot before each transaction (R141). -/
def serviceSlotGood (v : Service) (s : State) : Bool :=
  (s.slot v.slot).state.inService && (s.slot v.slot).epoch = v.epoch

end Sys2Proof.Machine
end

