-- ==== Sys2Proof/Machine/Transfers.lean ====
section
/-! DEFINITION. The transfer engine (chapter 3): segments, results, leaving the queue, fences, and the locked pair of a
swap up to the points where it starts a transaction. The access requests stand in Access.lean. -/

namespace Sys2Proof.Machine

/-! ### Segments (R41) -/

/-- The bridge address of the segment that begins at an offset of the transfer. -/
def Transfer.addressAt (t : Transfer) (offset : Nat) : Word := t.start + BitVec.ofNat 32 offset

/-- The bytes of the current segment: to the next line boundary or the end of the transfer (R41). -/
def Transfer.segmentLength (t : Transfer) : Nat :=
  min (64 - (t.start.toNat + t.completed) % 64) (t.length - t.completed)

/-- The end offset of the current segment. -/
def Transfer.segmentEnd (t : Transfer) : Nat := t.completed + t.segmentLength

/-- The start offset of the last segment (R49): the line of the last byte, or the start of the transfer. -/
def Transfer.lastOffset (t : Transfer) : Nat :=
  let last := t.start.toNat + t.length - 1
  if t.start.toNat ≤ last / 64 * 64 then last / 64 * 64 - t.start.toNat else 0

/-- The write data of the current segment. -/
def Transfer.segmentData (t : Transfer) : List Byte :=
  match t.kind with
  | .write data => (data.drop t.completed).take t.segmentLength
  | _ => []

/-- A write segment or a swap is looked up as a write (R22, R25). -/
def XferKind.isWrite : XferKind → Bool
  | .read => false
  | .write _ | .swap _ _ => true

/-! ### Translation (R8-R10, R21, R22) -/

/-- A translation of a segment: where it goes, or why it goes nowhere. -/
inductive Translation where
  | pageFault
  | readOnly (slot : SlotId) (addr : ModAddr)
  | to (slot : SlotId) (addr : ModAddr) (entry : Option Nat)
deriving DecidableEq, Repr

/-- The module address of an offset in a page (R22). -/
def PageEntry.address (e : PageEntry) (offset : Nat) : ModAddr := BitVec.ofNat 24 (e.frame.toNat * 4096 + offset % 4096)

/-- The page-map entry a window names for a bridge address (R10, R21). -/
def Window.entryIndex (w : Window) (a : Word) : Nat := w.origin + (a - w.base).toNat / 4096

/-- The translation of a bridge address through a window: by R9 for a DIRECT window, by the page lookup of R22 for a
PAGED one. -/
def translate (s : State) (w : Window) (a : Word) (isWrite : Bool) : Translation :=
  match w.kind with
  | .direct => .to w.slot (w.moduleBase + (a - w.base).setWidth 24) none
  | .paged =>
    let e := s.page (w.entryIndex a)
    let addr := e.address (a - w.base).toNat
    if !e.valid then .pageFault
    else if isWrite && e.access = .readOnly then .readOnly e.slot addr
    else .to e.slot addr (some (w.entryIndex a))

/-- The start of a transaction through a page entry sets its indications (R23). -/
def markPage (entry : Option Nat) (referenced written : Bool) (s : State) : State :=
  match entry with
  | none => s
  | some i =>
    let e := s.page i
    s.setPage i { e with referenced := e.referenced || referenced, written := e.written || written }

/-! ### Leaving the queue (R48-R52) -/

/-- How a transfer ends: complete, failed with a status and, where the failing segment was translated, its slot and
module address, or aborted. -/
inductive XferEnd where
  | complete
  | failed (st : Status) (place : Option (SlotId × ModAddr))
  | aborted
deriving DecidableEq, Repr

/-- The status of an ending. -/
def XferEnd.status : XferEnd → Status
  | .complete => .ok
  | .failed st _ => st
  | .aborted => .aborted

/-- The bridge address a reply gives (R49, R189): the start on OK; the failing segment; for an abort the segment at
offset bytes completed, or the last one when all bytes are completed. -/
def Transfer.reportedAddress (t : Transfer) (o : XferEnd) : Word :=
  match o with
  | .complete => t.start
  | .failed _ _ => t.addressAt t.completed
  | .aborted => t.addressAt (if t.completed = t.length then t.lastOffset else t.completed)

/-- What follows the status in a transfer's reply (R189). -/
def Transfer.replyBody (t : Transfer) (o : XferEnd) (info : SwapInfo) : List Byte :=
  match t.kind with
  | .read => countBytes t.completed ++ bytes32 (t.reportedAddress o) ++ t.readData
  | .write _ => countBytes t.completed ++ bytes32 (t.reportedAddress o)
  | .swap _ _ => info.bytes

/-- A failed posted write makes its POSTED_WRITE fault record and raises the posted-failure count (R50, R51). -/
def postedFault (t : Transfer) (st : Status) (place : Option (SlotId × ModAddr)) (s : State) : State :=
  let s := makeRecord
    { kind := .postedWrite, code := .status st, seq := some t.req.seq, bridge := some (t.addressAt t.completed)
      completed := some t.completed, slot := place.map Prod.fst, moduleAddr := place.map Prod.snd } s
  { s with xfer := { s.xfer with postedFailures := min (s.xfer.postedFailures + 1) 65535 } }

/-- Step 1 of R48: the transfer's reply or fault record, and the OK of each ACCESS_ABORT owed a reply (R55). -/
def answerTransfer (t : Transfer) (o : XferEnd) (info : SwapInfo) (s : State) : State :=
  let s :=
    if t.posted then
      match o with
      | .failed st place => postedFault t st place s
      | _ => s
    else queueReply t.req o.status (t.replyBody o info) s
  queueReplies t.aborts .ok (countBytes t.completed) s

/-- The queue replaced. -/
def setQueue (q : List QEntry) (s : State) : State := { s with xfer := { s.xfer with queue := q } }

/-- A fence at the head is removed and answered OK with the posted-failure count, which returns to 0 (R52). -/
def answerFence (r : ReqId) (s : State) : State :=
  let s := queueReply r .ok (countBytes s.xfer.postedFailures) s
  { s with xfer := { s.xfer with postedFailures := 0 } }

/-- The fences that stand at the head of a queue are removed one after another (R48, R52). -/
def fencesAtHead : List QEntry → State → State
  | .fence r :: q, s => fencesAtHead q (answerFence r (setQueue q s))
  | _, s => s

/-- The queue's head is looked at anew after a removal or an acceptance. -/
def newHead (s : State) : State := fencesAtHead s.xfer.queue s

/-- The head transfer leaves the queue (R48). -/
def leaveHead (t : Transfer) (o : XferEnd) (info : SwapInfo) (s : State) : State :=
  let s := releaseWindow t.window (answerTransfer t o info s)
  newHead (setQueue s.xfer.queue.tail s)

/-- The head transfer ends: ABORTED when its abort mark is set, and as given otherwise (R54). -/
def endHead (t : Transfer) (o : XferEnd) (info : SwapInfo) (s : State) : State :=
  leaveHead t (if t.aborts = [] then o else .aborted) info s

/-- The head transfer replaced. -/
def setHead (t : Transfer) (s : State) : State := setQueue (.transfer t :: s.xfer.queue.tail) s

/-! ### Results (R44-R46) -/

/-- The status a failing result ends a transfer with (R44). -/
def Result.status : Result → Status
  | .ack => .ok
  | .retry => .retryExhausted
  | .reject => .rejected
  | .noResponse => .noResponse
  | .parity | .dataError => .parity
  | .absent => .slotDown

/-- The RETRY of a segment or of a LOCK_READ (R46): a retry delay, or RETRY_EXHAUSTED. -/
def retryHead (t : Transfer) (place : SlotId × ModAddr) (s : State) : State :=
  if s.params.retryLimit ≤ t.retries then leaveHead t (.failed .retryExhausted (some place)) {} s
  else setHead { t with retries := t.retries + 1, state := .paused s.params.retryDelay } s

/-- A read or write segment has been ACKed (R45). -/
def segmentAcked (t : Transfer) (data : List Byte) : Transfer :=
  { t with completed := t.segmentEnd, readData := if t.kind = .read then t.readData ++ data else t.readData,
           retries := 0 }

/-- The transfer engine acts on the result of a segment (R44), or ends an aborted transfer (R54). -/
def segmentResult (t : Transfer) (place : SlotId × ModAddr) (r : Result) (data : List Byte) (s : State) : State :=
  if t.aborts ≠ [] then leaveHead (if r = .ack then segmentAcked t data else t) .aborted {} s
  else
    match r with
    | .ack =>
      let t := segmentAcked t data
      if t.completed = t.length then leaveHead t .complete {} s else setHead { t with state := .queued } s
    | .retry => retryHead t place s
    | r => leaveHead t (.failed r.status (some place)) {} s

/-! ### The locked pair (R57-R59) -/

/-- Whether the word read equals the compare value, so that the second half is UNLOCK_WRITE (R58). -/
def Pair.matches (p : Pair) : Bool := p.old = some p.compare

/-- What a swap's reply says of its pair (R59). -/
def Pair.info (p : Pair) (lockUnknown : Bool) : SwapInfo :=
  { old := p.old, swapped := p.matches, lockUnknown := lockUnknown }

/-- The pair ends and the grant is returned with it; the swap leaves the queue. After a bridge reset has been taken the
swap is gone and the result is discarded (R61). -/
def endPair (p : Pair) (o : XferEnd) (lockUnknown : Bool) (s : State) : State :=
  let s := { s with xfer := { s.xfer with pair := none } }
  if s.link.resetTaken then s
  else
    match s.xfer.queue with
    | .transfer t :: _ =>
      let t := if o = .complete then { t with completed := t.length } else t
      endHead t o (p.info lockUnknown) (returnGrant s)
    | _ => returnGrant s

/-- The transaction of a pair's second half (R58). -/
def Pair.secondHalf (p : Pair) : Tx :=
  { requester := .transfer, command := if p.matches then .unlockWrite else .unlock, slot := p.slot, addr := p.addr
    count := 4, writeData := if p.matches then bytes32 p.new else [] }

/-- The page entry whose written indication the start of a second half sets: the pair's, for an UNLOCK_WRITE, if it is
VALID now (R25). -/
def Pair.writtenEntry (p : Pair) (s : State) : Option Nat :=
  if p.matches then p.entry.filter fun i => (s.page i).valid else none

/-- The result of the pair's second half (R58, R59). -/
def secondResult (p : Pair) (r : Result) (s : State) : State :=
  match r with
  | .ack => endPair p .complete false s
  | .retry =>
    if s.params.retryLimit ≤ p.retries then endPair p (.failed .retryExhausted (some (p.slot, p.addr))) true s
    else
      let s := { s with xfer := { s.xfer with
        pair := some { p with retries := p.retries + 1, stage := .resend s.params.retryDelay } } }
      match s.xfer.queue with
      | .transfer t :: _ => if s.link.resetTaken then s else setHead { t with retries := p.retries + 1 } s
      | _ => s
  | .absent => endPair p (.failed .slotDown (some (p.slot, p.addr))) false s
  | r => endPair p (.failed r.status (some (p.slot, p.addr))) true s

/-- The pair's second half is sent to the slot and address of the first (R57, R58), or is ABSENT at its start (R65). -/
def sendSecond (p : Pair) (s : State) : State :=
  let s := markPage (p.writtenEntry s) false true s
  let p := { p with stage := .second }
  let s := { s with xfer := { s.xfer with pair := some p } }
  if linesReady s p.slot then putTx p.secondHalf s
  else
    let s := clearTx p.secondHalf .absent s
    secondResult p .absent (if s.link.resetTaken then s else superviseTakes p.slot .absent s)

/-- The result of the pair's LOCK_READ (R58). -/
def lockReadResult (p : Pair) (r : Result) (data : List Byte) (s : State) : State :=
  match r with
  | .ack => sendSecond { p with old := some (readWord data) } s
  | .retry =>
    let s := { s with xfer := { s.xfer with pair := none } }
    if s.link.resetTaken then s
    else
      match s.xfer.queue with
      | .transfer t :: _ =>
        if t.aborts = [] then retryHead t (p.slot, p.addr) (returnGrant s)
        else leaveHead t .aborted {} (returnGrant s)
      | _ => returnGrant s
  | r => endPair p (.failed r.status (some (p.slot, p.addr))) false s

/-- The result of a transaction of the pair, by its stage. -/
def pairResult (p : Pair) (r : Result) (data : List Byte) (s : State) : State :=
  match p.stage with
  | .lockRead => lockReadResult p r data s
  | .second | .resend _ => secondResult p r s

/-- The transfer engine receives the result of one of its transactions (R44, R58). -/
def transferResult (t : Tx) (r : Result) (data : List Byte) (s : State) : State :=
  match s.xfer.pair with
  | some p => pairResult p r data s
  | none =>
    if s.link.resetTaken then s
    else
      match s.xfer.queue with
      | .transfer x :: _ => segmentResult x (t.slot, t.addr) r data (returnGrant s)
      | _ => returnGrant s

end Sys2Proof.Machine
end

