-- ==== Sys2Proof/Machine/Backplane.lean ====
section
/-! DEFINITION. The backplane controller (chapter 4): how a transaction ends and whom its result reaches, how one
starts, the loss of a slot's lines, the four grants, and the events of a transaction in progress. -/

namespace Sys2Proof.Machine

/-! ### The end and the start of a transaction -/

/-- After a bridge reset has been taken, the result of the transaction in progress reaches nobody (R81); a locked pair
still runs its second half (R61), and a HOLD_CYCLE's reply is dropped (R125). -/
def orphanResult (t : Tx) (r : Result) (data : List Byte) (s : State) : State :=
  match t.requester with
  | .transfer => transferResult t r data s
  | .hold => { s with hold := { s.hold with cycle := none } }
  | .supervise | .inbound => s

/-- The requester receives the result, and a one-transaction grant is returned (R71, R77). -/
def deliver (t : Tx) (r : Result) (data : List Byte) (s : State) : State :=
  match t.requester with
  | .hold => cycleResult r data s
  | .supervise => returnGrant (superviseResult t.slot r data (superviseTakes t.slot r s))
  | .transfer => transferResult t r data (superviseTakes t.slot r s)
  | .inbound => returnGrant (inboundResult r data (superviseTakes t.slot r s))

/-- A transaction ends with its result: the controller is IDLE, and the result goes to the slot supervisor and then to
the requester (R71). -/
def finishTx (t : Tx) (r : Result) (data : List Byte) (s : State) : State :=
  let s := clearTx t r s
  if s.link.resetTaken then orphanResult t r data s else deliver t r data s

/-- A transaction is started: driven, or ABSENT at once when the slot's lines are not ready (R65). -/
def beginTx (t : Tx) (s : State) : State :=
  if linesReady s t.slot then putTx t s else finishTx t .absent [] s

/-- A slot's presence has been lost or its reset line asserted: a transaction to it ends ABSENT (R70), and a swap that
waits to send its second half to it again ends SLOT_DOWN (R59). -/
def slotLost (i : SlotId) (s : State) : State :=
  match s.ctrl.tx with
  | some t => if t.slot = i then finishTx t .absent [] s else s
  | none =>
    match s.xfer.pair with
    | some p => if p.slot = i then endPair p (.failed .slotDown (some (p.slot, p.addr))) false s else s
    | none => s

/-! ### The grants -/

/-- The transaction of the head's current segment, or its pair's LOCK_READ (R42, R57). -/
def Transfer.segmentTx (t : Transfer) (slot : SlotId) (addr : ModAddr) : Tx :=
  { requester := .transfer, slot := slot, addr := addr, count := t.segmentLength, writeData := t.segmentData
    command := match t.kind with
      | .read => .read
      | .write _ => .write
      | .swap _ _ => .lockRead }

/-- The locked pair a swap opens (R57). -/
def Transfer.openPair (t : Transfer) (slot : SlotId) (addr : ModAddr) (entry : Option Nat) : Option Pair :=
  match t.kind with
  | .swap c n =>
    some { slot := slot, addr := addr, compare := c, new := n, entry := entry, old := none, stage := .lockRead,
           retries := t.retries }
  | _ => none

/-- Whether starting a transfer's segment carries data to the module, so that it sets the written indication (R23). -/
def XferKind.marksWritten : XferKind → Bool
  | .write _ => true
  | .read | .swap _ _ => false

/-- The head's segment is started (R42 step 4): ISSUING, bytes issued, the page indications, the transaction. -/
def startSegment (t : Transfer) (slot : SlotId) (addr : ModAddr) (entry : Option Nat) (s : State) : State :=
  let s := setHead { t with state := .issuing, issued := t.segmentEnd } s
  let s := markPage entry true t.kind.marksWritten s
  beginTx (t.segmentTx slot addr) { s with xfer := { s.xfer with pair := t.openPair slot addr entry } }

/-- The head issues its segment under the grant (R42), or fails before its transaction with the grant returned unused
(R43). -/
def issueHead (t : Transfer) (s : State) : State :=
  match translate s (s.window t.window) (t.addressAt t.completed) t.kind.isWrite with
  | .pageFault => returnGrant (leaveHead t (.failed .pageFault none) {} s)
  | .readOnly slot addr => returnGrant (leaveHead t (.failed .readOnly (some (slot, addr))) {} s)
  | .to slot addr entry =>
    if (s.slot slot).state.inService then startSegment t slot addr entry s
    else returnGrant (leaveHead t (.failed .slotDown (some (slot, addr))) {} s)

/-- TRANSFER_GRANT: the arbiter grants TRANSFER and the head issues its segment (R42). -/
def execTransferGrant (s : State) : Host.Outcome State Fault Refusal :=
  .next <|
    if grantDue .transfer s then
      let s := takeGrant .transfer s
      settle <|
        match s.xfer.queue with
        | .transfer t :: _ => issueHead t s
        | _ => returnGrant s
    else s

/-- The address a work item reads: the descriptor, the heartbeat word of the descriptor held with the attempt, or that
of the descriptor copy (R91). -/
def itemAddress (w : WorkItem) (s : State) : Option ModAddr :=
  match w.read with
  | .descriptor => some Config.descriptorAddr
  | .baseline => (s.slot w.slot).held.map fun d => d.heartbeatAddr
  | .check => (s.slot w.slot).descriptor.map fun d => d.heartbeatAddr

/-- The bytes a work item reads (R91). -/
def WorkRead.count : WorkRead → Nat
  | .descriptor => 64
  | .baseline | .check => 4

/-- SUPERVISE_GRANT: the oldest item leaves the work list and its READ is started; with an empty list the grant is
returned unused (R91). -/
def execSuperviseGrant (s : State) : Host.Outcome State Fault Refusal :=
  .next <|
    if grantDue .supervise s then
      let s := takeGrant .supervise s
      settle <|
        match s.sup.work with
        | w :: rest =>
          let s := { s with sup := { s.sup with work := rest } }
          match itemAddress w s with
          | some a => beginTx { requester := .supervise, command := .read, slot := w.slot, addr := a,
                                count := w.read.count } s
          | none => returnGrant s
        | [] => returnGrant s
    else s

/-- INBOUND_GRANT: a slot is selected, or the service's next transaction is started after the check of its slot
(R133, R141). -/
def execInboundGrant (s : State) : Host.Outcome State Fault Refusal :=
  .next <|
    if grantDue .inbound s then
      let s := takeGrant .inbound s
      settle <|
        match s.inb.service with
        | none =>
          match selectSlot s with
          | some i => beginTx (newService i s).tx (selectService i s)
          | none => returnGrant s
        | some v => if serviceSlotGood v s then beginTx v.tx s else returnGrant (dropService s)
    else s

/-- HOLD_GRANT: the hold unit becomes HELD, the limit timer starts, the HOLD_ACQUIRE is answered OK with the limit, and
every CHECK item is skipped (R116). -/
def execHoldGrant (s : State) : Host.Outcome State Fault Refusal :=
  .next <|
    if grantDue .hold s then
      let s := takeGrant .hold s
      let acquire := s.hold.acquire
      let limit := s.hold.limit
      let s := { s with hold := { s.hold with state := .held, acquire := none, limitTimer := limit } }
      settle (skipItems (queueOwed acquire .ok (countBytes (limit.getD 0)) s))
    else s

/-! ### Events of the transaction in progress -/

/-- The transaction in progress replaced. -/
def setTx (t : Tx) (s : State) : State := { s with ctrl := { s.ctrl with tx := some t } }

/-- The controller drives a read check (R69). -/
def driveCheck (c : ReadCheck) (s : State) : State := { s with ctrl := { s.ctrl with readCheck := some c } }

/-- REQUEST_DRIVEN: the last write data word has been driven; the transaction enters WAIT and the response timer starts
with RESPONSE_TIMEOUT (R66, R68). -/
def execRequestDriven (s : State) : Host.Outcome State Fault Refusal :=
  .next <|
    match s.ctrl.tx with
    | some t =>
      if t.phase = .request then setTx { t with phase := .wait, timer := some s.params.responseTimeout } s else s
    | none => s

/-- The result a response code ends a transaction with, `none` for an ACK that opens the DATA phase (R67, R69). -/
def codeResult (cmd : Command) (code : ResponseCode) (parityGood : Bool) : Option Result :=
  if !parityGood then some .parity
  else
    match code with
    | .ack => if cmd.returnsData then none else some .ack
    | .retry => some .retry
    | .reject => some .reject
    | .dataError => some .dataError
    | .unnamed => some .parity

/-- RESPONSE_CODE_ARRIVES: in WAIT the transaction goes to DATA with the timer started for the first word, or ends with
the code's result; a code that fails its parity is PARITY, with the read check REFUSE for a read (R67-R69). -/
def execResponseCodeArrives (code : ResponseCode) (parityGood : Bool) (s : State) :
    Host.Outcome State Fault Refusal :=
  .next <|
    match s.ctrl.tx with
    | some t =>
      if t.phase = .wait then
        settle <|
          match codeResult t.command code parityGood with
          | none => setTx { t with phase := .data, timer := some s.params.responseTimeout } s
          | some r =>
            finishTx t r [] (if t.command.returnsData ∧ r = .parity then driveCheck .refuse s else s)
      else s
    | none => s

/-- The transaction after a read data word: the enabled bytes are kept in address order, and a mismatch of an enabled
lane is remembered (R67, R69). -/
def Tx.receive (t : Tx) (word : Word) (parity : BitVec 4) (timeout : Nat) : Tx :=
  let lanes := [0, 1, 2, 3].filter (t.laneEnabled t.words)
  { t with readData := t.readData ++ lanes.map (lane word)
           mismatch := t.mismatch || lanes.any fun k => !laneGood word parity k
           words := t.words + 1, timer := some timeout }

/-- READ_DATA_WORD_ARRIVES: in DATA the word is taken; the last word ends the transaction, ACK with the read data when
every enabled lane matched and PARITY otherwise (R69). -/
def execReadDataWordArrives (word : Word) (parity : BitVec 4) (s : State) : Host.Outcome State Fault Refusal :=
  .next <|
    match s.ctrl.tx with
    | some t =>
      if t.phase = .data then
        let t := t.receive word parity s.params.responseTimeout
        settle <|
          if t.words < t.wordCount then setTx t s
          else if t.mismatch then finishTx t .parity [] (driveCheck .refuse s)
          else finishTx t .ack t.readData (driveCheck .accept s)
      else s
    | none => s

/-- RESPONSE_TIMER_EXPIRY: the transaction ends NO_RESPONSE; in DATA the read check is REFUSE (R68). -/
def execResponseTimerExpiry (s : State) : Host.Outcome State Fault Refusal :=
  .next <|
    match s.ctrl.tx with
    | some t =>
      if t.timer.isSome then
        settle (finishTx t .noResponse [] (if t.phase = .data then driveCheck .refuse s else s))
      else s
    | none => s

end Sys2Proof.Machine
end

