-- ==== Sys2Proof/Machine/SlotRequests.lean ====
section
/-! DEFINITION. The actions of the slot requests (R96, R104, R106-R108), the slot timers' expiries (R88, R95, R97, R105) and the
presence lines (R87-R89). -/

namespace Sys2Proof.Machine

/-! ### Requests -/

/-- A slot request's payload: MALFORMED when it does not fit, RANGE for a slot number greater than 15, and otherwise the
request's own action. -/
def onSlot (payload : List Byte) (act : SlotId → ReqId → State → State) (r : ReqId) (s : State) : State :=
  match parseByte payload with
  | none => queueReply r .malformed [] s
  | some b =>
    match slotOfByte b with
    | none => queueReply r .range [] s
    | some i => act i r s

/-- The descriptor copy in SLOT_GET's record, 12 bytes, 0 when absent (R189). -/
def descriptorBytes : Option Descriptor → List Byte
  | some d => [d.cls, d.revision, d.flags, byteOf d.spaceLog2] ++ bytes24 d.heartbeatAddr ++ bytes24 d.postAddr ++
      countBytes d.maxPost
  | none => List.replicate 12 0

/-- The record of SLOT_GET, 28 bytes (R108, R189). -/
def Slot.bytes (r : Slot) (present : Bool) : List Byte :=
  [r.state.code, r.epoch, r.lastCause.code, causeByte r.faultCause, byteOf r.lag, byteOf r.skip, byteOf r.silence,
   byteOf r.attempts, causeByte r.attemptCause] ++ bytes32 r.heartbeat ++
    [boolByte present, boolByte r.enrollReply.isSome, boolByte r.descriptor.isSome] ++ descriptorBytes r.descriptor

/-- SLOT_GET's action (R108). -/
def getSlot (i : SlotId) (r : ReqId) (s : State) : State :=
  queueReply r .ok ((s.slot i).bytes (s.present i)) s

/-- SLOT_ENROLL's action: a PRESENT slot enters ENROLLING with the reply deferred (R96). -/
def enrollSlot (i : SlotId) (r : ReqId) (s : State) : State :=
  if (s.slot i).state = .present then
    settle (beginEnrollment i (s.slot i).lastCause (s.modifySlot i fun x => { x with enrollReply := some r }))
  else queueReply r .wrongState [] s

/-- What SLOT_RESET and SLOT_OFF share: the slot's record is cleared with its timer as given, its items leave the work
list, it enters the state, its module's lock is gone, a transaction to it ends ABSENT, and an owed SLOT_ENROLL reply is
queued SLOT_DOWN (R104, R106). That the reply of such a transaction stands ahead of the SLOT_DOWN, and ahead of the
request's own OK, which its caller queues next, is DESIGN CHOICE, log 16. -/
def assertReset (i : SlotId) (st : SlotState) (cause : LastCause) (timer : Option SlotTimer) (s : State) : State :=
  let s := dropItems i (s.modifySlot i fun r => r.clearedCounts timer)
  enrollDown i (slotLost i (unlockModule i (changeState i st cause s)))

/-- The pulse timer as SLOT_RESET_PULSE now stands (R104). -/
def pulseTimer (p : Params) : Option SlotTimer := some { kind := .pulse, ms := p.slotResetPulse }

/-- SLOT_RESET's action (R104). -/
def resetSlot (i : SlotId) (r : ReqId) (s : State) : State :=
  if (s.slot i).state = .off ∨ (s.slot i).state = .empty then queueReply r .wrongState [] s
  else settle (queueReply r .ok [] (assertReset i .resetting .reset (pulseTimer s.params) s))

/-- SLOT_OFF's action (R106). -/
def offSlot (i : SlotId) (r : ReqId) (s : State) : State :=
  if (s.slot i).state = .off then queueReply r .ok [] s
  else settle (queueReply r .ok [] (assertReset i .off .off none s))

/-- SLOT_ON's action: the reset line is released and presence sampled (R107). -/
def onSlotAgain (i : SlotId) (r : ReqId) (s : State) : State :=
  if (s.slot i).state = .off then queueReply r .ok [] (samplePresence i .on s)
  else queueReply r .wrongState [] s

/-! ### Timers -/

/-- The slot is in a state with its timer of a kind running, so that the timer can expire. -/
def timerRuns (i : SlotId) (k : TimerKind) (s : State) : Bool :=
  match (s.slot i).timer with
  | some t => t.kind = k
  | none => false

/-- SETTLE_TIMER_EXPIRY: ENROLLING with AUTO_ENROLL on, PRESENT with it off (R88). -/
def execSettleTimerExpiry (i : SlotId) (s : State) : Host.Outcome State Fault Refusal :=
  .next <|
    if (s.slot i).state = .settling ∧ timerRuns i .settle s then
      settle <|
        if s.params.autoEnroll then beginEnrollment i .settled s
        else changeState i .present .settled (s.modifySlot i fun r => { r with timer := none })
    else s

/-- ATTEMPT_GAP_EXPIRY: the next attempt begins (R95). -/
def execAttemptGapExpiry (i : SlotId) (s : State) : Host.Outcome State Fault Refusal :=
  .next <|
    if (s.slot i).state = .enrolling ∧ timerRuns i .gap s then settle (beginAttempt i s) else s

/-- CHECK_TIMER_EXPIRY: the timer starts again with CHECK_INTERVAL and a check falls due (R97). -/
def execCheckTimerExpiry (i : SlotId) (s : State) : Host.Outcome State Fault Refusal :=
  .next <|
    if (s.slot i).state.inService ∧ timerRuns i .check s then
      settle (checkDue i (s.modifySlot i fun r => { r with timer := checkTimer s.params }))
    else s

/-- PULSE_TIMER_EXPIRY: the reset line is released and presence sampled; the last cause stays RESET (R105). -/
def execPulseTimerExpiry (i : SlotId) (s : State) : Host.Outcome State Fault Refusal :=
  .next <|
    if (s.slot i).state = .resetting ∧ timerRuns i .pulse s then samplePresence i (s.slot i).lastCause s else s

/-! ### Presence -/

/-- The presence line of a slot at a level. -/
def setPresence (i : SlotId) (level : Bool) (s : State) : State :=
  { s with pins := { s.pins with presence := s.pins.presence.set i level } }

/-- PRESENCE_ACTIVE: an EMPTY slot enters SETTLING (R87). -/
def execPresenceActive (i : SlotId) (s : State) : Host.Outcome State Fault Refusal :=
  .next <|
    if s.present i then s
    else
      let s := setPresence i true s
      if (s.slot i).state = .empty then enterSettling i .inserted s else s

/-- What the supervisor makes of a presence line that has become inactive (R88, R89). -/
def presenceLost (i : SlotId) (s : State) : State :=
  if (s.slot i).state = .settling then
    changeState i .empty .removed (s.modifySlot i fun r => { r with timer := none })
  else if (s.slot i).state.removable then removeSlot i s
  else s

/-- PRESENCE_INACTIVE: the slot is removed or returns to EMPTY (R88, R89), its module's lock is gone (R72), and a
transaction to it ends ABSENT with the slot already EMPTY (R70, R90). So the removal's owed SLOT_ENROLL reply is queued
before the ABSENT reply of a HOLD_CYCLE to the slot, an order the rules leave open (DESIGN CHOICE, log 20). -/
def execPresenceInactive (i : SlotId) (s : State) : Host.Outcome State Fault Refusal :=
  .next <|
    if s.present i then settle (slotLost i (unlockModule i (presenceLost i (setPresence i false s)))) else s

end Sys2Proof.Machine
end

