-- ==== Sys2Proof/Machine/LinkEvents.lean ====
section
/-! DEFINITION. Power-on, breaks, the transmit line, the output arbiter and the bridge reset (chapter 9, with
the parts of R3, R20, R61, R81, R111, R125, R131, R153 and R162 that a reset reaches). -/

namespace Sys2Proof.Machine

/-! ### Power-on -/

/-- Sixteen line levels from a flags word, slot `k` in bit `k`. -/
def levels (w : BitVec 16) : Vector Bool 16 := Vector.ofFn fun i => w.getLsbD i.val

/-- The rate the straps select (R165). -/
def rateOf (rateA rateB : Bool) : LineRate :=
  match rateB, rateA with
  | false, false => .baud115200
  | false, true => .baud1000000
  | true, false => .baud3000000
  | true, true => .baud6000000

/-- A slot record at power-on: SETTLING with its settle timer where presence is active, EMPTY where it is not (R85). -/
def powerOnSlot (present : Bool) : Slot :=
  if present then
    { state := .settling, timer := some { kind := .settle, ms := State.reset.params.settleTime } }
  else {}

/-- POWER_ON: every block takes its power-on values, with the pins at the levels sampled (R176, R85, R165). The commands
still waiting are left waiting. -/
def execPowerOn (pins : PowerPins) (s : State) : Host.Outcome State Fault Refusal :=
  .next
    { State.reset with
      pins := { rateA := pins.rateA, rateB := pins.rateB, rxLow := pins.rxLow, presence := levels pins.presence
                attention := levels pins.attention }
      link := { State.reset.link with phase := if pins.rxLow then .brk else .opened
                                      rate := rateOf pins.rateA pins.rateB }
      sup := { State.reset.sup with slots := Vector.ofFn fun i => powerOnSlot (pins.presence.getLsbD i.val) }
      pending := s.pending }

/-! ### LINK_UP (R175) -/

/-- The first of POWER_ON, BRIDGE and BREAK among the kind pending and the new one (R175). -/
def mergeReset : Option ResetKind → ResetKind → ResetKind
  | some .powerOn, _ => .powerOn
  | _, .powerOn => .powerOn
  | some .bridge, _ => .bridge
  | _, .bridge => .bridge
  | _, .brk => .brk

/-- LINK_UP becomes pending with a reset kind, merged with the kind pending (R175). -/
def Link.pendLinkUp (l : Link) (k : ResetKind) : Link := { l with linkUp := some (mergeReset l.linkUp k) }

/-- The capacities of LINK_UP in their order, 13 bytes (R175, R191). -/
def capacityBytes : List Byte :=
  [byteOf 16, byteOf 8] ++ countBytes Config.pageEntries ++ [byteOf Config.queueEntries, byteOf Config.posts] ++
    countBytes Config.stagingBytes ++
    [byteOf Config.faultRecords, byteOf Config.unrepliedRequests, byteOf Config.cacheEntries] ++
    countBytes Config.payloadBytes

/-- LINK_UP's payload, 25 bytes (R191). -/
def linkUpPayload (k : ResetKind) (s : State) : List Byte :=
  [k.code] ++ bytes16 Config.identity ++ [Config.revision] ++ capacityBytes ++ bytes32 s.faults.next ++
    bytes32 s.stamp

/-! ### The output arbiter (R174) -/

/-- The level of the transmit line `k` bit times after the beginning of the frame on it: the frame's characters back to
back, and high at rest (R165). -/
def State.transmitLevel (s : State) (k : Nat) : Bool :=
  match s.link.transmitter with
  | some (f, _) =>
    match f.line[k / 10]? with
    | some c => c.getLsbD (k % 10)
    | none => true
  | none => true

/-- A frame is put on the transmit line. -/
def transmit (f : Frame) (src : FrameSource) (s : State) : State :=
  { s with link := { s.link with transmitter := some (f, src) } }

/-- A notice frame is begun: it carries the notice counter, which then rises by one (R174). -/
def beginNotice (kind : Byte) (payload : List Byte) (src : FrameSource) (s : State) : State :=
  transmit { cls := .notice, kind := kind, seq := s.link.noticeCounter, payload := payload } src
    { s with link := { s.link with noticeCounter := s.link.noticeCounter + 1 } }

/-- The frame of a queued reply (R167, R185). -/
def Reply.frame (r : Reply) : Frame := { cls := .reply, kind := r.kind, seq := r.seq, payload := r.status.code :: r.body }

/-- The lowest slot with its SLOT_STATE indication set (R160). -/
def firstPendingSlot (s : State) : Option SlotId := slotIds.find? fun i => s.notices.slotPending[i]

/-- The oldest record with its FAULT indication set (R160). -/
def firstPendingFault (s : State) : Option FaultEntry := s.faults.entries.find? fun e => e.pending

/-- The FAULT indication of the record of a number is set or cleared (R158, R160). -/
def Faults.mark (f : Faults) (number : Word) (pending : Bool) : Faults :=
  { f with entries := f.entries.map fun e => if e.record.number = number then { e with pending := pending } else e }

/-- SLOT_STATE's payload: slot, state, epoch, last cause (R191). -/
def slotNoticePayload (i : SlotId) (s : State) : List Byte :=
  [byteOf i.val, (s.slot i).state.code, (s.slot i).epoch, (s.slot i).lastCause.code]

/-- POST's payload (R191). -/
def Post.bytes (p : Post) : List Byte :=
  bytes16 p.number ++ [byteOf p.slot.val, p.epoch, p.channel, p.tag] ++ countBytes p.body.length ++ bytes32 p.stamp ++
    p.body

/-- The frames after LINK_UP in the order of R174: SLOT_STATE, HOLD_END, FAULT, POST. -/
def beginPending (s : State) : State :=
  match firstPendingSlot s with
  | some i =>
    beginNotice Kind.slotState (slotNoticePayload i s) (.slotState i)
      { s with notices := { s.notices with slotPending := s.notices.slotPending.set i false } }
  | none =>
    match s.notices.holdEnd with
    | some limit =>
      beginNotice Kind.holdEnd (expiryCode :: countBytes limit) (.holdEnd limit false)
        { s with notices := { s.notices with holdEnd := none } }
    | none =>
      match firstPendingFault s with
      | some e =>
        beginNotice Kind.fault e.record.bytes (.fault e.record.number)
          { s with faults := s.faults.mark e.record.number false }
      | none =>
        match s.inb.posts with
        | p :: _ =>
          if 0 < s.inb.credits then
            beginNotice Kind.post p.bytes .post { s with inb := { s.inb with credits := s.inb.credits - 1 } }
          else s
        | [] => s

/-- The output arbiter begins the first frame its order names: a reply, the OVERLOAD reply, LINK_UP, or a notice of
`beginPending` (R174). -/
def beginFrame (s : State) : State :=
  match s.link.replies with
  | r :: rest => transmit r.frame (.reply r) { s with link := { s.link with replies := rest } }
  | [] =>
    match s.link.overload with
    | some (seq, kind) =>
      transmit { cls := .reply, kind := kind, seq := seq, payload := [Status.overload.code] } .overload
        { s with link := { s.link with overload := none } }
    | none =>
      match s.link.linkUp with
      | some k =>
        beginNotice Kind.linkUp (linkUpPayload k s) (.linkUp k) { s with link := { s.link with linkUp := none } }
      | none => beginPending s

/-- OUTPUT_FRAME_BEGIN: with the transmitter idle and the link OPEN, the output arbiter begins a frame (R174). -/
def execOutputFrameBegin (s : State) : Host.Outcome State Fault Refusal :=
  .next (if s.link.transmitter.isNone ∧ s.link.phase = .opened then beginFrame s else s)

/-! ### Taking a bridge reset (R178) -/

/-- The host link at the taking of a bridge reset (R178, steps 1 and 2). -/
def Link.takeReset (l : Link) : Link :=
  { l with phase := if l.phase = .brk then .brk else .resetWait, resetTaken := true, framer := .hunt
           session := l.session + 1, unreplied := [], replies := [], cache := [], overload := none }

/-- The transfer engine at the taking: the queue is emptied and the posted-failure count is 0 (R61). A locked pair under
way goes on, but sets no page indication any more (R25). -/
def Xfer.takeReset (x : Xfer) : Xfer :=
  { queue := [], postedFailures := 0, pair := x.pair.map fun p => { p with entry := none } }

/-- The hold unit at the taking: a pending acquire is withdrawn and dropped, and a held hold's limit timer is stopped
(R125; DEDUCED, log 17). -/
def Hold.takeReset (h : Hold) : Hold :=
  match h.state with
  | .pending => { h with state := .idle, acquire := none, limit := none }
  | _ => { h with limitTimer := none }

/-- The bridge reset is taken: the link's part (R178), and that of the windows (R3), the page map (R20), the transfer
engine (R61) and the hold unit (R125). The waiting requests are withdrawn by the settling that ends the event (R81). -/
def takeReset (s : State) : State :=
  { s with link := s.link.takeReset, windows := Vector.replicate 8 {}, pages := Vector.replicate 2048 {}
           xfer := s.xfer.takeReset, hold := s.hold.takeReset }

/-! ### The end of a frame -/

/-- A sent reply enters the reply cache (R173). -/
def Link.cacheReply (l : Link) (r : Reply) : Link :=
  let others := l.cache.filter fun e => e.seq ≠ r.seq
  let kept := if Config.cacheEntries ≤ others.length then others.tail else others
  { l with cache := kept ++ [{ seq := r.seq, kind := r.kind, crc := r.crc, status := r.status, body := r.body }] }

/-- A reply's last byte has been sent: unless it was a resend, its request leaves the unreplied and it enters the cache
(R170, R173); the OK of a BRIDGE_RESET takes the reset (R178). -/
def replySent (r : Reply) (s : State) : State :=
  if r.resend then s
  else
    let l := { s.link with unreplied := s.link.unreplied.filter fun q => q.seq ≠ r.seq }
    let s := { s with link := l.cacheReply r }
    if r.kind = Kind.bridgeReset ∧ r.status = .ok then takeReset s else s

/-- The last byte of a POST frame has been sent: the post leaves the queue, which is a room event (R146). -/
def postSent (s : State) : State := roomEvent { s with inb := { s.inb with posts := s.inb.posts.tail } }

/-- FRAME_SENT: the transmitter is idle and the frame's source completes (R174). -/
def execFrameSent (s : State) : Host.Outcome State Fault Refusal :=
  .next <|
    match s.link.transmitter with
    | none => s
    | some (_, src) =>
      let s := { s with link := { s.link with transmitter := none } }
      settle <|
        match src with
        | .reply r => replySent r s
        | .post => postSent s
        | _ => s

/-! ### The completion of a bridge reset (R81) -/

/-- A slot at the completion: OFF stays, every other slot enters RESETTING with its pulse timer; no SLOT_ENROLL reply is
owed any more (R111). -/
def Slot.completeReset (r : Slot) (p : Params) : Slot :=
  if r.state = .off then { r with enrollReply := none }
  else { r.clearedCounts (pulseTimer p) with state := .resetting, lastCause := .reset, enrollReply := none }

/-- The inbound engine at the completion (R131): the next post number is kept. -/
def Inbound.completeReset (b : Inbound) : Inbound := { nextNumber := b.nextNumber }

/-- The host link at the completion: LINK_UP pending with kind BRIDGE, the reset field none, and the phase OPEN unless a
break lasts (R178). -/
def Link.completeReset (l : Link) : Link :=
  { l.pendLinkUp .bridge with resetTaken := false, phase := if l.phase = .brk then .brk else .opened }

/-- The part's reset completes: the grant and the turn counter (R81), the supervisor (R111), the inbound engine (R131),
the hold unit (R125), the fault list (R153), the notice unit (R162) and the link (R178). The reset pulses release every
module's lock; an OFF slot's module is held in reset and has none (R72, R125). -/
def completeReset (s : State) : State :=
  noteAllSlots
    { s with arb := {}
             sup := { slots := s.sup.slots.map fun r => r.completeReset s.params, work := [] }
             inb := s.inb.completeReset
             hold := {}
             faults := { s.faults with entries := [] }
             notices := { s.notices with holdEnd := none }
             link := s.link.completeReset
             modules := Vector.replicate 16 .unlocked }

/-- BRIDGE_RESET_COMPLETE: a bridge reset that has been taken completes once no transaction or locked pair is in
progress (R81). -/
def execBridgeResetComplete (s : State) : Host.Outcome State Fault Refusal :=
  .next <|
    if s.link.resetTaken ∧ s.ctrl.tx.isNone ∧ s.xfer.pair.isNone then settle (completeReset s) else s

/-! ### Breaks -/

/-- A frame is cut off by a break, and its source acts by kind (R160, R177): a cut-off LINK_UP is pending again, a FAULT
indication is set again while its record is in the list and FAULT is enabled, a HOLD_END indication while HOLD_END is
enabled and it has not been set again. -/
def cutOff (s : State) : State :=
  let line := s.link.transmitter
  let s := { s with link := { s.link with transmitter := none } }
  match line with
  | some (_, .linkUp k) => { s with link := s.link.pendLinkUp k }
  | some (_, .fault n) => if s.notices.faultEnabled then { s with faults := s.faults.mark n true } else s
  | some (_, .holdEnd limit again) =>
    if s.notices.holdEnabled ∧ ¬again then { s with notices := { s.notices with holdEnd := some limit } } else s
  | _ => s

/-- A reply that ends a BRIDGE_RESET taken (DEDUCED, log 21). -/
def Reply.isResetOk (r : Reply) : Bool := r.kind = Kind.bridgeReset && r.status = .ok && !r.resend

/-- An accepted BRIDGE_RESET's OK waits in the reply queue or is on the line (R177, step 6). -/
def resetOwed (l : Link) : Bool :=
  l.replies.any Reply.isResetOk ||
    match l.transmitter with
    | some (_, .reply r) => r.isResetOk
    | _ => false

/-- The host link at the beginning of a break (R177, steps 1 and 3 to 5). -/
def Link.beginBreak (l : Link) : Link :=
  { l.pendLinkUp .brk with phase := .brk, framer := .hunt, lowRun := 0, session := l.session + 1, unreplied := []
                           replies := [], cache := [], overload := none }

/-- A break at the hold unit (R126): a pending acquire is withdrawn; a held hold ends with cause BREAK. -/
def breakHold (s : State) : State :=
  match s.hold.state with
  | .idle => s
  | .pending => { s with hold := { s.hold with state := .idle, acquire := none, limit := none } }
  | .held => holdMayEnd { s with hold := { s.hold with limitTimer := none, endCause := some .brk } }

/-- The break reaches the link and the other blocks in one event (R177): the frame on the line is cut off, credits become
0 (R131), a hold ends (R126), all SLOT_STATE notices are pending (R112), and an owed bridge reset is taken. -/
def beginBreak (s : State) : State :=
  let owed := resetOwed s.link
  let s := cutOff s
  let s := { s with link := s.link.beginBreak, inb := { s.inb with credits := 0 }, pins := { s.pins with rxLow := true } }
  let s := noteAllSlots (breakHold s)
  if owed then takeReset s else s

/-- BREAK_BEGIN (R177): in OPEN or RESET_WAIT the receive line has been low for two character times (R166). -/
def execBreakBegin (s : State) : Host.Outcome State Fault Refusal :=
  .next (if s.link.phase = .brk then s else settle (beginBreak s))

/-- The end of a break: the phase becomes RESET_WAIT while a bridge reset is taken, and OPEN otherwise (R166). -/
def endBreak (s : State) : State :=
  { s with link := { s.link with phase := if s.link.resetTaken then .resetWait else .opened }
           pins := { s.pins with rxLow := false } }

/-- BREAK_END: the receive line returns high after a break (R166). -/
def execBreakEnd (s : State) : Host.Outcome State Fault Refusal :=
  .next (if s.link.phase = .brk then endBreak s else s)

end Sys2Proof.Machine
end

