-- ==== Sys2Proof/Machine/Access.lean ====
section
/-! DEFINITION. The owners of the access requests (chapter 3): ACCESS_READ, ACCESS_WRITE, ACCESS_SWAP, ACCESS_FENCE, ACCESS_ABORT, the
retry delay of a PAUSED head, the delay of a swap's second half, and the row FENCE_AT_HEAD. -/

namespace Sys2Proof.Machine

/-- The queue holds 16 entries (R38). -/
def queueFull (s : State) : Bool := Config.queueEntries ≤ s.xfer.queue.length

/-- The checks of R38 after the payload's, in order: the window the transfer will use, or the refusal. -/
def checkAccess (start : Word) (length : Nat) (kind : XferKind) (s : State) : Except Status WindowId :=
  if queueFull s then .error .queueFull
  else
    match hit s start with
    | none => .error .noWindow
    | some w =>
      if (s.window w).limit < start.toNat + length then .error .range
      else if kind.isWrite ∧ (s.window w).access = .readOnly then .error .readOnly
      else
        match kind with
        | .swap _ _ => if start.toNat % 4 ≠ 0 then .error .misaligned else .ok w
        | _ => .ok w

/-- An ACCESS_WRITE through a POSTED window is posted (R6, R39); a read or swap never is (R57). -/
def isPosted (kind : XferKind) (policy : WritePolicy) : Bool :=
  match kind with
  | .write _ => policy = .posted
  | _ => false

/-- The entry of an accepted transfer (R39). -/
def newTransfer (r : ReqId) (start : Word) (length : Nat) (kind : XferKind) (w : WindowId) (s : State) : Transfer :=
  { req := r, kind := kind, window := w, start := start, length := length,
    posted := isPosted kind (s.window w).policy }

/-- An accepted transfer joins the tail, its window's use count rises, and a posted write is answered POSTED (R39). -/
def joinQueue (t : Transfer) (s : State) : State :=
  let s := useWindow t.window (setQueue (s.xfer.queue ++ [.transfer t]) s)
  if t.posted then queueReply t.req .posted [] s else s

/-- An access is refused or accepted (R38, R39). -/
def acceptAccess (r : ReqId) (start : Word) (length : Nat) (kind : XferKind) (s : State) : State :=
  match checkAccess start length kind s with
  | .error st => queueReply r st [] s
  | .ok w => joinQueue (newTransfer r start length kind w s) s

/-- A transfer length of 1 to 4096 bytes (R38). -/
def lengthGood (n : Nat) : Bool := 1 ≤ n && n ≤ Config.transferBytes

/-- ACCESS_READ's owner. -/
def accessReadOwner (payload : List Byte) (r : ReqId) (s : State) : State :=
  match parseAccessRead payload with
  | none => queueReply r .malformed [] s
  | some (start, length) =>
    if lengthGood length then acceptAccess r start length .read s else queueReply r .malformed [] s

/-- ACCESS_WRITE's owner. -/
def accessWriteOwner (payload : List Byte) (r : ReqId) (s : State) : State :=
  match parseAccessWrite payload with
  | none => queueReply r .malformed [] s
  | some (start, data) =>
    if lengthGood data.length then acceptAccess r start data.length (.write data) s
    else queueReply r .malformed [] s

/-- ACCESS_SWAP's owner. -/
def accessSwapOwner (payload : List Byte) (r : ReqId) (s : State) : State :=
  match parseAccessSwap payload with
  | none => queueReply r .malformed [] s
  | some (start, compare, new) => acceptAccess r start 4 (.swap compare new) s

/-- ACCESS_FENCE's owner: the fence joins the tail, and leaves at once if it is the head (R52). -/
def accessFenceOwner (payload : List Byte) (r : ReqId) (s : State) : State :=
  match parseEmpty payload with
  | none => queueReply r .malformed [] s
  | some _ =>
    if queueFull s then queueReply r .queueFull [] s
    else newHead (setQueue (s.xfer.queue ++ [.fence r]) s)

/-- The sequence number an entry carries. -/
def QEntry.seq : QEntry → Byte
  | .transfer t => t.req.seq
  | .fence r => r.seq

/-- An entry ended by abort answers: ABORTED to itself unless posted, then the abort's OK with its bytes completed; a
transfer's window is released (R48, R54, R55). -/
def answerAborted (e : QEntry) (r : ReqId) (s : State) : State :=
  match e with
  | .transfer t => releaseWindow t.window (answerTransfer { t with aborts := [r] } .aborted {} s)
  | .fence f => queueReply r .ok (countBytes 0) (queueReply f .aborted [] s)

/-- The abort acts on the entry at a place of the queue (R54): an ISSUING head is marked, any other entry is removed at
once, a head with its grant request. -/
def abortAt (n : Nat) (e : QEntry) (r : ReqId) (s : State) : State :=
  match e with
  | .transfer t =>
    if n = 0 ∧ t.state = .issuing then setHead { t with aborts := t.aborts ++ [r] } s
    else
      let s := answerAborted e r (if n = 0 then withdrawRequest .transfer s else s)
      newHead (setQueue (s.xfer.queue.eraseIdx n) s)
  | .fence _ =>
    let s := answerAborted e r s
    newHead (setQueue (s.xfer.queue.eraseIdx n) s)

/-- ACCESS_ABORT's owner: the oldest entry with the number, or NOT_FOUND (R53). -/
def accessAbortOwner (payload : List Byte) (r : ReqId) (s : State) : State :=
  match parseByte payload with
  | none => queueReply r .malformed [] s
  | some q =>
    match s.xfer.queue.findIdx? fun e => e.seq = q with
    | none => queueReply r .notFound [] s
    | some n =>
      match s.xfer.queue[n]? with
      | some e => abortAt n e r s
      | none => queueReply r .notFound [] s

/-- FENCE_AT_HEAD (R52). The rules remove a fence in the event that makes it the head (`newHead`); the row alone does the
same act where it is due (DEDUCED, log 5). -/
def execFenceAtHead (s : State) : Host.Outcome State Fault Refusal :=
  .next (settle (newHead s))

/-- RETRY_DELAY_EXPIRY: a PAUSED head becomes QUEUED and asks for the grant (R47). -/
def execRetryDelayExpiry (s : State) : Host.Outcome State Fault Refusal :=
  .next <|
    match s.xfer.queue with
    | .transfer t :: _ =>
      match t.state with
      | .paused _ => settle (setHead { t with state := .queued } s)
      | _ => s
    | _ => s

/-- SWAP_RESEND_DELAY_EXPIRY: the second half is sent again under the same grant (R58). -/
def execSwapResendDelayExpiry (s : State) : Host.Outcome State Fault Refusal :=
  .next <|
    match s.xfer.pair with
    | some p =>
      match p.stage with
      | .resend _ => settle (sendSecond p s)
      | _ => s
    | none => s

end Sys2Proof.Machine
end

