-- ==== Sys2Proof/Machine/FaultRequests.lean ====
section
/-! DEFINITION. The owners of the fault list's requests and of the notice mask (chapter 8), and the stamp (R152). -/

namespace Sys2Proof.Machine

/-- The age of a number (R153). -/
def Faults.age (f : Faults) (m : Word) : Nat := (f.next - 1 - m).toNat

/-- Whether a number has been given (R153). -/
def Faults.wasGiven (f : Faults) (m : Word) : Bool := f.given && f.age m < 2 ^ 31

/-- The records FAULT_READ returns: up to `max` from the first whose number is `from` or younger; none when `from` has
not yet been given (R154). -/
def Faults.select (f : Faults) (start : Word) (most : Nat) : List FaultEntry :=
  if f.wasGiven start then (f.entries.dropWhile fun e => f.age start < f.age e.record.number).take most else []

/-- The records left by FAULT_CLEAR: those younger than `upto` (R155). -/
def Faults.after (f : Faults) (upto : Word) : List FaultEntry :=
  f.entries.dropWhile fun e => f.age upto ≤ f.age e.record.number

/-- FAULT_READ's owner (R154). -/
def faultReadOwner (payload : List Byte) (r : ReqId) (s : State) : State :=
  match parseFaultRead payload with
  | none => queueReply r .malformed [] s
  | some (start, most) =>
    if 1 ≤ most ∧ most ≤ 8 then
      let found := s.faults.select start most
      queueReply r .ok
        ([byteOf found.length, byteOf s.faults.entries.length] ++ bytes32 s.faults.next ++
          found.flatMap fun e => e.record.bytes) s
    else queueReply r .range [] s

/-- FAULT_CLEAR's owner (R155). -/
def faultClearOwner (payload : List Byte) (r : ReqId) (s : State) : State :=
  match parseFaultClear payload with
  | none => queueReply r .malformed [] s
  | some upto =>
    if s.faults.wasGiven upto then
      let left := s.faults.after upto
      queueReply r .ok [byteOf (s.faults.entries.length - left.length), byteOf left.length]
        { s with faults := { s.faults with entries := left } }
    else queueReply r .range [] s

/-- The notice unit after a change of its mask: disabling a kind clears its pending indications (R161). -/
def Notices.remask (n : Notices) (change value : Byte) : Notices :=
  let st := chooseFlag (change.getLsbD 0) (value.getLsbD 0) n.slotEnabled
  let ft := chooseFlag (change.getLsbD 1) (value.getLsbD 1) n.faultEnabled
  let hd := chooseFlag (change.getLsbD 2) (value.getLsbD 2) n.holdEnabled
  { slotPending := if st then n.slotPending else Vector.replicate 16 false
    holdEnd := if hd then n.holdEnd else none
    slotEnabled := st, faultEnabled := ft, holdEnabled := hd }

/-- The fault list with no FAULT indication pending. -/
def Faults.quiet (f : Faults) : Faults := { f with entries := f.entries.map fun e => { e with pending := false } }

/-- NOTICE_MASK's owner (R161). -/
def noticeMaskOwner (payload : List Byte) (r : ReqId) (s : State) : State :=
  match parseNoticeMask payload with
  | none => queueReply r .malformed [] s
  | some (change, value) =>
    if change.toNat < 8 ∧ value.toNat < 8 then
      let n := s.notices.remask change value
      queueReply r .ok [n.maskByte]
        { s with notices := n, faults := if n.faultEnabled then s.faults else s.faults.quiet }
    else queueReply r .range [] s

/-- STAMP_TICK: the stamp rises by one and wraps (R152). -/
def execStampTick (s : State) : Host.Outcome State Fault Refusal := .next { s with stamp := s.stamp + 1 }

end Sys2Proof.Machine
end

