-- ==== Sys2Proof/Machine/Hold.lean ====
section
/-! DEFINITION. The owners of the hold requests (R115, R117, R119), the limit timer (R120) and the row HOLD_ENDS (R121). -/

namespace Sys2Proof.Machine

/-- HOLD_ACQUIRE's owner (R115). -/
def holdAcquireOwner (payload : List Byte) (r : ReqId) (s : State) : State :=
  match parseLimit payload with
  | none => queueReply r .malformed [] s
  | some n =>
    if n = 0 ∨ s.params.holdLimit < n then queueReply r .range [] s
    else if s.hold.state ≠ .idle then queueReply r .alreadyHeld [] s
    else { s with hold := { s.hold with state := .pending, acquire := some r, limit := some n } }

/-- The hold is HELD and not ending (R114). -/
def holdUsable (s : State) : Bool := s.hold.state = .held && s.hold.endCause.isNone

/-- A HOLD_CYCLE that passes its checks starts, or joins the cycle queue (R117). -/
def takeCycle (c : Cycle) (s : State) : State :=
  if s.hold.cycle.isSome then { s with hold := { s.hold with cycles := s.hold.cycles ++ [c] } }
  else startCycles (s.hold.cycles ++ [c]) s

/-- HOLD_CYCLE's owner: the checks of R117 in order. -/
def holdCycleOwner (payload : List Byte) (r : ReqId) (s : State) : State :=
  match parseHoldCycle payload with
  | none => queueReply r .malformed [] s
  | some f =>
    match slotOfByte f.slot, Command.ofCode f.command with
    | some i, some k =>
      if k.fits f.addr f.count then
        if holdUsable s then
          takeCycle { req := r, slot := i, command := k, addr := f.addr, count := f.count, data := f.data } s
        else queueReply r .notHeld [] s
      else queueReply r .range [] s
    | _, _ => queueReply r .range [] s

/-- HOLD_RELEASE's action by the hold unit's state (R119). -/
def releaseHold (r : ReqId) (s : State) : State :=
  match s.hold.state with
  | .idle => queueReply r .notHeld [] s
  | .pending =>
    let s := queueReply r .ok [] (queueOwed s.hold.acquire .cancelled [] s)
    { s with hold := { s.hold with state := .idle, acquire := none, limit := none } }
  | .held =>
    if s.hold.endCause.isSome then queueReply r .notHeld [] s
    else
      holdMayEnd { s with hold := { s.hold with limitTimer := none, endCause := some .release,
                                                releaseReply := some r } }

/-- HOLD_RELEASE's owner (R119). -/
def holdReleaseOwner (payload : List Byte) (r : ReqId) (s : State) : State :=
  match parseEmpty payload with
  | none => queueReply r .malformed [] s
  | some _ => releaseHold r s

/-- LIMIT_TIMER_EXPIRY: the end cause becomes EXPIRY, and the hold ends at once or when its cycle in progress ends
(R120). The limit timer runs only in HELD. -/
def execLimitTimerExpiry (s : State) : Host.Outcome State Fault Refusal :=
  .next <|
    if s.hold.state = .held ∧ s.hold.limitTimer.isSome then
      settle (holdMayEnd { s with hold := { s.hold with limitTimer := none, endCause := some .expiry } })
    else s

/-- HOLD_ENDS (R121). The rules end a hold in the event that sets its end cause or ends its last cycle (`holdMayEnd`);
the row alone does the same act where it is due (DEDUCED, log 5). From the taking of a bridge reset to its completion it is not
due: a bridge reset ends a hold by its own steps (R121, R125). -/
def execHoldEnds (s : State) : Host.Outcome State Fault Refusal :=
  .next (if s.link.resetTaken then s else settle (holdMayEnd s))

end Sys2Proof.Machine
end

