-- ==== Sys2Proof/Machine/InboundRequests.lean ====
section
/-! DEFINITION. The owners of POST_CREDIT and ATTENTION_MASK, the attention lines and the back-off timers (chapter 7). -/

namespace Sys2Proof.Machine

/-- POST_CREDIT's owner (R145). -/
def postCreditOwner (payload : List Byte) (r : ReqId) (s : State) : State :=
  match parseByte payload with
  | none => queueReply r .malformed [] s
  | some n =>
    if Config.credits < n.toNat then queueReply r .range [] s
    else
      let total := min (s.inb.credits + n.toNat) Config.credits
      queueReply r .ok [byteOf total] { s with inb := { s.inb with credits := total } }

/-- The mask flags after a change: each slot whose change flag is set takes its value flag (R144). -/
def changeMask (change value : BitVec 16) (masked : Vector Bool 16) : Vector Bool 16 :=
  masked.mapIdx fun k old => chooseFlag (change.getLsbD k) (value.getLsbD k) old

/-- ATTENTION_MASK's owner (R144). -/
def attentionMaskOwner (payload : List Byte) (r : ReqId) (s : State) : State :=
  match parseAttentionMask payload with
  | none => queueReply r .malformed [] s
  | some (change, value) =>
    let masked := changeMask change value s.inb.masked
    settle (queueReply r .ok (bytes16 (wordOfFlags masked)) { s with inb := { s.inb with masked := masked } })

/-- ATTENTION_CHANGE: the line takes its level, and eligibility is judged to place or withdraw the INBOUND request
(R132, R130). -/
def execAttentionChange (i : SlotId) (level : Bool) (s : State) : Host.Outcome State Fault Refusal :=
  .next (settle { s with pins := { s.pins with attention := s.pins.attention.set i level } })

/-- BACK_OFF_EXPIRY: a running back-off timer stops, and the slot may be eligible again (R142). -/
def execBackOffExpiry (i : SlotId) (s : State) : Host.Outcome State Fault Refusal :=
  .next <|
    if (s.inb.backOff[i]).isSome then settle { s with inb := { s.inb with backOff := s.inb.backOff.set i none } }
    else s

end Sys2Proof.Machine
end

