-- ==== Sys2Proof/Machine/LinkRequests.lean ====
section
/-! DEFINITION. The owners of the requests of the host link (R170, R178-R181): ECHO, CONFIG_GET, CONFIG_SET, BRIDGE_RESET, and a kind
code that names no request. -/

namespace Sys2Proof.Machine

/-- A request whose kind code names none is answered UNKNOWN_KIND by the link itself (R170). -/
def unknownKindOwner (r : ReqId) (s : State) : State := queueReply r .unknownKind [] s

/-- ECHO's owner (R179). -/
def echoOwner (payload : List Byte) (r : ReqId) (s : State) : State :=
  if payload.length ≤ 4096 then queueReply r .ok payload s else queueReply r .malformed [] s

/-- A parameter's code and value in a reply (R189). -/
def Params.entry (p : Params) (i : ParamId) : List Byte := i.code :: countBytes (p.get i)

/-- CONFIG_GET's owner (R180). -/
def configGetOwner (payload : List Byte) (r : ReqId) (s : State) : State :=
  match parseEmpty payload with
  | none => queueReply r .malformed [] s
  | some _ => queueReply r .ok (allParams.flatMap s.params.entry) s

/-- A slot's timer when CHECK_INTERVAL changes (R97): a change to 0 stops a check timer, and a change from 0 starts one
in ACTIVE and LAGGING. -/
def Slot.switchCheck (r : Slot) (old new : Nat) : Slot :=
  if old ≠ 0 ∧ new = 0 then
    match r.timer with
    | some t => if t.kind = .check then { r with timer := none } else r
    | none => r
  else if old = 0 ∧ new ≠ 0 ∧ r.state.inService then { r with timer := some { kind := .check, ms := new } }
  else r

/-- The parameters take new values, and CHECK_INTERVAL's switch acts on every slot (R181, R97). -/
def setParams (p : Params) (s : State) : State :=
  let old := s.params.checkInterval
  { s with params := p
           sup := { s.sup with slots := s.sup.slots.map fun r => r.switchCheck old p.checkInterval } }

/-- CONFIG_SET's owner: every pair is checked before any is applied (R181). -/
def configSetOwner (payload : List Byte) (r : ReqId) (s : State) : State :=
  match parseConfigSet payload with
  | none => queueReply r .malformed [] s
  | some raw =>
    match checkPairs raw with
    | none => queueReply r .range [] s
    | some ps =>
      let p := s.params.apply ps
      queueReply r .ok (ps.flatMap fun x => p.entry x.1) (setParams p s)

/-- BRIDGE_RESET's owner: the OK is queued at once; the reset is taken when its last byte has been sent (R178). -/
def bridgeResetOwner (payload : List Byte) (r : ReqId) (s : State) : State :=
  match parseEmpty payload with
  | none => queueReply r .malformed [] s
  | some _ => queueReply r .ok [] s

end Sys2Proof.Machine
end

