-- ==== Sys2Proof/Machine/Pages.lean ====
section
/-! DEFINITION. The owners of the page requests (chapter 2): PAGE_WRITE, PAGE_READ, PAGE_SWEEP. -/

namespace Sys2Proof.Machine

/-- Consecutive entries from `first` take new values (R29). -/
def writePages : Nat → List PageEntry → State → State
  | _, [], s => s
  | first, e :: es, s => writePages (first + 1) es (s.setPage first e)

/-- `count` consecutive entries from `first`, in entry order. -/
def readPages (s : State) (first count : Nat) : List PageEntry := (List.range count).map fun k => s.page (first + k)

/-- The indications of `count` consecutive entries from `first` are cleared (R31). -/
def clearPages : Nat → Nat → State → State
  | _, 0, s => s
  | first, n + 1, s => clearPages (first + 1) n (s.setPage first (s.page first).cleared)

/-- The count and range checks the page requests share (R28, R30, R31). -/
def pageRangeGood (first count most : Nat) : Bool :=
  1 ≤ count && count ≤ most && first + count - 1 ≤ 2047

/-- PAGE_WRITE's owner: the checks of R28 in order, then all entries at once (R29). -/
def pageWriteOwner (payload : List Byte) (r : ReqId) (s : State) : State :=
  match parsePageWrite payload with
  | none => queueReply r .malformed [] s
  | some (first, sets) =>
    if pageRangeGood first sets.length 64 then
      match pageEntriesOf sets with
      | none => queueReply r .range [] s
      | some es => queueReply r .ok [] (writePages first es s)
    else queueReply r .range [] s

/-- A page entry as PAGE_READ returns it: valid, access, slot, frame, indications (R189). -/
def PageEntry.bytes (e : PageEntry) : List Byte :=
  [boolByte e.valid, e.access.code, byteOf e.slot.val] ++ countBytes e.frame.toNat ++ [e.indications]

/-- PAGE_READ's owner (R30). -/
def pageReadOwner (payload : List Byte) (r : ReqId) (s : State) : State :=
  match parsePageRead payload with
  | none => queueReply r .malformed [] s
  | some (first, count) =>
    if pageRangeGood first count 64 then
      queueReply r .ok ((readPages s first count).flatMap PageEntry.bytes) s
    else queueReply r .range [] s

/-- PAGE_SWEEP's owner: the indications are returned and cleared in one act (R31). -/
def pageSweepOwner (payload : List Byte) (r : ReqId) (s : State) : State :=
  match parsePageSweep payload with
  | none => queueReply r .malformed [] s
  | some (first, count) =>
    if pageRangeGood first count 256 then
      queueReply r .ok ((readPages s first count).map PageEntry.indications) (clearPages first count s)
    else queueReply r .range [] s

end Sys2Proof.Machine
end

