-- ==== Sys2Proof/Machine/Windows.lean ====
section
/-! DEFINITION. The owners of the window requests (chapter 1), WINDOW_SET, WINDOW_CLEAR and WINDOW_GET, and the row WINDOW_DRAIN_END. -/

namespace Sys2Proof.Machine

/-- The record a WINDOW_SET writes, with its index, when every check of R11 passes. For a DIRECT window the record
stores origin 0; for a PAGED one slot 0 and module base 0. -/
def WindowFields.record (f : WindowFields) : Option (WindowId × Window) :=
  let size := 2 ^ f.sizeLog2.toNat
  match windowOfByte f.index, WindowKind.ofCode f.kind, Access.ofCode f.access, WritePolicy.ofCode f.policy with
  | some w, some kind, some access, some policy =>
    if 16 ≤ f.sizeLog2.toNat ∧ f.sizeLog2.toNat ≤ 24 ∧ f.base.toNat % size = 0 then
      let r : Window := { state := .enabled, base := f.base, sizeLog2 := f.sizeLog2.toNat, kind := kind,
                          access := access, policy := policy }
      match kind with
      | .direct =>
        match slotOfByte f.slot with
        | some sl =>
          if f.moduleBase.toNat % size = 0 then some (w, { r with slot := sl, moduleBase := f.moduleBase }) else none
        | none => none
      | .paged =>
        if f.origin.toNat ≤ 2047 ∧ f.origin.toNat + size / 4096 ≤ 2048 then
          some (w, { r with origin := f.origin.toNat })
        else none
    else none
  | _, _, _, _ => none

/-- Two windows share an address of bridge space. -/
def Window.meets (a b : Window) : Bool := a.base.toNat < b.limit && b.base.toNat < a.limit

/-- The new range shares an address with another window that is ENABLED or CLOSING (R12). -/
def overlapsOther (s : State) (w : WindowId) (r : Window) : Bool :=
  windowIds.any fun v => v ≠ w && (s.window v).state ≠ .disabled && r.meets (s.window v)

/-- WINDOW_SET's owner: the checks of R11, R12 and R13 in that order, then the record is taken. -/
def windowSetOwner (payload : List Byte) (r : ReqId) (s : State) : State :=
  match parseWindowSet payload with
  | none => queueReply r .malformed [] s
  | some f =>
    match f.record with
    | none => queueReply r .range [] s
    | some (w, rec) =>
      if overlapsOther s w rec then queueReply r .overlap [] s
      else if (s.window w).state = .closing ∨ ((s.window w).state = .enabled ∧ 0 < (s.window w).useCount) then
        queueReply r .busy [] s
      else queueReply r .ok [] (s.setWindow w rec)

/-- WINDOW_CLEAR of a window, by its state (R14). -/
def clearWindow (w : WindowId) (r : ReqId) (s : State) : State :=
  match (s.window w).state with
  | .disabled => queueReply r .ok [] s
  | .enabled =>
    if (s.window w).useCount = 0 then queueReply r .ok [] (s.setWindow w { s.window w with state := .disabled })
    else s.setWindow w { s.window w with state := .closing, clearReply := some r }
  | .closing => queueReply r .busy [] s

/-- WINDOW_CLEAR's owner (R14). -/
def windowClearOwner (payload : List Byte) (r : ReqId) (s : State) : State :=
  match parseByte payload with
  | none => queueReply r .malformed [] s
  | some b =>
    match windowOfByte b with
    | none => queueReply r .range [] s
    | some w => clearWindow w r s

/-- The record as WINDOW_GET returns it: state, use count, then as in WINDOW_SET from offset 1 on (R18, R189). -/
def Window.bytes (w : Window) : List Byte :=
  [w.state.code, byteOf w.useCount] ++ bytes32 w.base ++
    [byteOf w.sizeLog2, w.kind.code, w.access.code, w.policy.code, byteOf w.slot.val] ++ bytes24 w.moduleBase ++
    countBytes w.origin

/-- WINDOW_GET's owner (R18). -/
def windowGetOwner (payload : List Byte) (r : ReqId) (s : State) : State :=
  match parseByte payload with
  | none => queueReply r .malformed [] s
  | some b =>
    match windowOfByte b with
    | none => queueReply r .range [] s
    | some w => queueReply r .ok (s.window w).bytes s

/-- WINDOW_DRAIN_END (R15). The rules end a drain in the removal that takes the use count to 0 (`releaseWindow`); the
row alone does the same act where it is due (DEDUCED, log 5). -/
def execWindowDrainEnd (w : WindowId) (s : State) : Host.Outcome State Fault Refusal :=
  .next (drainEnd w s)

end Sys2Proof.Machine
end

