-- ==== Sys2Proof/Machine/Requests.lean ====
section
/-! DEFINITION. The receive line: what the part does with the levels and characters on it (R166, R168), which owner a
request found among them goes to (R170), FRAME_DISCARD, and the meaning of every request of the table as its frame on
that line. The owners stand in their own chapters' files. -/

namespace Sys2Proof.Machine

/-! ### Receiving -/

/-- The owner of a request kind (R170); a code that names no request is answered by the link itself. -/
def ownerOf (kind : Byte) (payload : List Byte) : ReqId → State → State :=
  if kind = Kind.windowSet then windowSetOwner payload
  else if kind = Kind.windowClear then windowClearOwner payload
  else if kind = Kind.windowGet then windowGetOwner payload
  else if kind = Kind.pageWrite then pageWriteOwner payload
  else if kind = Kind.pageRead then pageReadOwner payload
  else if kind = Kind.pageSweep then pageSweepOwner payload
  else if kind = Kind.accessRead then fun r s => settle (accessReadOwner payload r s)
  else if kind = Kind.accessWrite then fun r s => settle (accessWriteOwner payload r s)
  else if kind = Kind.accessSwap then fun r s => settle (accessSwapOwner payload r s)
  else if kind = Kind.accessFence then fun r s => settle (accessFenceOwner payload r s)
  else if kind = Kind.accessAbort then fun r s => settle (accessAbortOwner payload r s)
  else if kind = Kind.slotGet then onSlot payload getSlot
  else if kind = Kind.slotEnroll then onSlot payload enrollSlot
  else if kind = Kind.slotReset then onSlot payload resetSlot
  else if kind = Kind.slotOff then onSlot payload offSlot
  else if kind = Kind.slotOn then onSlot payload onSlotAgain
  else if kind = Kind.holdAcquire then fun r s => settle (holdAcquireOwner payload r s)
  else if kind = Kind.holdCycle then holdCycleOwner payload
  else if kind = Kind.holdRelease then fun r s => settle (holdReleaseOwner payload r s)
  else if kind = Kind.postCredit then postCreditOwner payload
  else if kind = Kind.attentionMask then attentionMaskOwner payload
  else if kind = Kind.faultRead then faultReadOwner payload
  else if kind = Kind.faultClear then faultClearOwner payload
  else if kind = Kind.noticeMask then noticeMaskOwner payload
  else if kind = Kind.echo then echoOwner payload
  else if kind = Kind.configGet then configGetOwner payload
  else if kind = Kind.configSet then configSetOwner payload
  else if kind = Kind.bridgeReset then bridgeResetOwner payload
  else unknownKindOwner

/-- A request found on the receive line is passed on (R168, R169). -/
def passOn (q : RxRequest) (s : State) : State := handOn q.kind q.seq q.payload (ownerOf q.kind q.payload) s

/-- The state with its framer replaced. -/
def State.withFramer (s : State) (f : Framer) : State := { s with link := { s.link with framer := f } }

/-- Characters on the receive line (R168): they continue the frame in progress, and every good request found among them
is passed on in its turn, its frame ended. In BREAK the framer receives nothing (R166). That the characters of one
command come together is DEDUCED, log 11. -/
def receive (cs : List RxChar) (s : State) : State :=
  if s.link.phase = .brk then s
  else
    let h := s.link.framer.hear cs
    (h.requests.foldl (fun s q => passOn q s) (s.withFramer .hunt)).withFramer h.framer

/-- The state with the low run of the receive line replaced. -/
def State.withLowRun (s : State) (run : Nat) : State := { s with link := { s.link with lowRun := run } }

/-- Ten levels in BREAK: the break ends when one of them is high (R166); they are no character (DEDUCED, log 28). -/
def hearInBreak (c : LineChar) (s : State) : State := if c = 0 then s else (endBreak s).withLowRun (lowAtEnd c)

/-- Levels on the receive line, in groups of ten (log 31), after characters that have come and are not yet received. The
line low for two character times, from the levels of the command before on (DESIGN CHOICE, log 32), is a break (R166):
what came before is received, the break begins (R177) within the group that completes it, and the line's return to high
ends it. A group whose stop bit is low is a framing error (R165); where the line then stays low long enough for a break,
the break drops the frame in progress that the error has dropped. -/
def hearLevels : List LineChar → List RxChar → State → State
  | [], heard, s => receive heard s
  | c :: cs, heard, s =>
    if s.link.phase = .brk then hearLevels cs [] (hearInBreak c s)
    else if Config.breakTimes ≤ s.link.lowRun + lowAtStart c then
      hearLevels cs [] (hearInBreak c (settle (beginBreak (receive heard s))))
    else hearLevels cs (heard ++ (receiveChar c).toList) (s.withLowRun (runAfter s.link.lowRun c))

/-- A request frame arrives. In HUNT, with the line high before it, a frame with a payload it can hold (R167) is the next
one found, and its request is handed on; otherwise its levels are taken as any others (R166, R168). -/
def onRequest (kind seq : Byte) (payload : List Byte) (owner : ReqId → State → State) (s : State) : State :=
  if s.link.phase ≠ .brk ∧ s.link.framer = .hunt ∧ s.link.lowRun = 0 ∧ payload.length ≤ Config.payloadBytes then
    handOn kind seq payload owner s
  else hearLevels (requestFrame kind seq payload).line [] s

/-- FRAME_DISCARD: levels that are no request frame of their own arrive, ten by ten (R165, R166, R168). -/
def execFrameDiscard (chars : List LineChar) (s : State) : Host.Outcome State Fault Refusal :=
  .next (hearLevels chars [] s)

/-! ### The requests -/

/-- UNKNOWN_KIND_REQUEST: an accepted request whose kind code names no request is answered UNKNOWN_KIND (R170). A kind
code of the request table is another command's frame, not this one's, and changes nothing here (DEDUCED, log 26). -/
def execUnknownKindRequest (kind seq : Byte) (payload : List Byte) (s : State) : Host.Outcome State Fault Refusal :=
  .next (if namesRequest kind then s else onRequest kind seq payload unknownKindOwner s)

/-- WINDOW_SET (R11-R13). -/
def execWindowSet (seq : Byte) (payload : List Byte) (s : State) : Host.Outcome State Fault Refusal :=
  .next (onRequest Kind.windowSet seq payload (windowSetOwner payload) s)

/-- WINDOW_CLEAR (R14). -/
def execWindowClear (seq : Byte) (payload : List Byte) (s : State) : Host.Outcome State Fault Refusal :=
  .next (onRequest Kind.windowClear seq payload (windowClearOwner payload) s)

/-- WINDOW_GET (R18). -/
def execWindowGet (seq : Byte) (payload : List Byte) (s : State) : Host.Outcome State Fault Refusal :=
  .next (onRequest Kind.windowGet seq payload (windowGetOwner payload) s)

/-- PAGE_WRITE (R28, R29). -/
def execPageWrite (seq : Byte) (payload : List Byte) (s : State) : Host.Outcome State Fault Refusal :=
  .next (onRequest Kind.pageWrite seq payload (pageWriteOwner payload) s)

/-- PAGE_READ (R30). -/
def execPageRead (seq : Byte) (payload : List Byte) (s : State) : Host.Outcome State Fault Refusal :=
  .next (onRequest Kind.pageRead seq payload (pageReadOwner payload) s)

/-- PAGE_SWEEP (R31). -/
def execPageSweep (seq : Byte) (payload : List Byte) (s : State) : Host.Outcome State Fault Refusal :=
  .next (onRequest Kind.pageSweep seq payload (pageSweepOwner payload) s)

/-- ACCESS_READ (R38, R39). -/
def execAccessRead (seq : Byte) (payload : List Byte) (s : State) : Host.Outcome State Fault Refusal :=
  .next (onRequest Kind.accessRead seq payload (fun r s => settle (accessReadOwner payload r s)) s)

/-- ACCESS_WRITE (R38, R39). -/
def execAccessWrite (seq : Byte) (payload : List Byte) (s : State) : Host.Outcome State Fault Refusal :=
  .next (onRequest Kind.accessWrite seq payload (fun r s => settle (accessWriteOwner payload r s)) s)

/-- ACCESS_SWAP (R38, R39, R57). -/
def execAccessSwap (seq : Byte) (payload : List Byte) (s : State) : Host.Outcome State Fault Refusal :=
  .next (onRequest Kind.accessSwap seq payload (fun r s => settle (accessSwapOwner payload r s)) s)

/-- ACCESS_FENCE (R52). -/
def execAccessFence (seq : Byte) (payload : List Byte) (s : State) : Host.Outcome State Fault Refusal :=
  .next (onRequest Kind.accessFence seq payload (fun r s => settle (accessFenceOwner payload r s)) s)

/-- ACCESS_ABORT (R53-R55). -/
def execAccessAbort (seq : Byte) (payload : List Byte) (s : State) : Host.Outcome State Fault Refusal :=
  .next (onRequest Kind.accessAbort seq payload (fun r s => settle (accessAbortOwner payload r s)) s)

/-- SLOT_GET (R108). -/
def execSlotGet (seq : Byte) (payload : List Byte) (s : State) : Host.Outcome State Fault Refusal :=
  .next (onRequest Kind.slotGet seq payload (onSlot payload getSlot) s)

/-- SLOT_ENROLL (R96). -/
def execSlotEnroll (seq : Byte) (payload : List Byte) (s : State) : Host.Outcome State Fault Refusal :=
  .next (onRequest Kind.slotEnroll seq payload (onSlot payload enrollSlot) s)

/-- SLOT_RESET (R104). -/
def execSlotReset (seq : Byte) (payload : List Byte) (s : State) : Host.Outcome State Fault Refusal :=
  .next (onRequest Kind.slotReset seq payload (onSlot payload resetSlot) s)

/-- SLOT_OFF (R106). -/
def execSlotOff (seq : Byte) (payload : List Byte) (s : State) : Host.Outcome State Fault Refusal :=
  .next (onRequest Kind.slotOff seq payload (onSlot payload offSlot) s)

/-- SLOT_ON (R107). -/
def execSlotOn (seq : Byte) (payload : List Byte) (s : State) : Host.Outcome State Fault Refusal :=
  .next (onRequest Kind.slotOn seq payload (onSlot payload onSlotAgain) s)

/-- HOLD_ACQUIRE (R115). -/
def execHoldAcquire (seq : Byte) (payload : List Byte) (s : State) : Host.Outcome State Fault Refusal :=
  .next (onRequest Kind.holdAcquire seq payload (fun r s => settle (holdAcquireOwner payload r s)) s)

/-- HOLD_CYCLE (R117, R118). -/
def execHoldCycle (seq : Byte) (payload : List Byte) (s : State) : Host.Outcome State Fault Refusal :=
  .next (onRequest Kind.holdCycle seq payload (holdCycleOwner payload) s)

/-- HOLD_RELEASE (R119). -/
def execHoldRelease (seq : Byte) (payload : List Byte) (s : State) : Host.Outcome State Fault Refusal :=
  .next (onRequest Kind.holdRelease seq payload (fun r s => settle (holdReleaseOwner payload r s)) s)

/-- POST_CREDIT (R145). -/
def execPostCredit (seq : Byte) (payload : List Byte) (s : State) : Host.Outcome State Fault Refusal :=
  .next (onRequest Kind.postCredit seq payload (postCreditOwner payload) s)

/-- ATTENTION_MASK (R144). -/
def execAttentionMask (seq : Byte) (payload : List Byte) (s : State) : Host.Outcome State Fault Refusal :=
  .next (onRequest Kind.attentionMask seq payload (attentionMaskOwner payload) s)

/-- FAULT_READ (R154). -/
def execFaultRead (seq : Byte) (payload : List Byte) (s : State) : Host.Outcome State Fault Refusal :=
  .next (onRequest Kind.faultRead seq payload (faultReadOwner payload) s)

/-- FAULT_CLEAR (R155). -/
def execFaultClear (seq : Byte) (payload : List Byte) (s : State) : Host.Outcome State Fault Refusal :=
  .next (onRequest Kind.faultClear seq payload (faultClearOwner payload) s)

/-- NOTICE_MASK (R161). -/
def execNoticeMask (seq : Byte) (payload : List Byte) (s : State) : Host.Outcome State Fault Refusal :=
  .next (onRequest Kind.noticeMask seq payload (noticeMaskOwner payload) s)

/-- ECHO (R179). -/
def execEcho (seq : Byte) (payload : List Byte) (s : State) : Host.Outcome State Fault Refusal :=
  .next (onRequest Kind.echo seq payload (echoOwner payload) s)

/-- CONFIG_GET (R180). -/
def execConfigGet (seq : Byte) (payload : List Byte) (s : State) : Host.Outcome State Fault Refusal :=
  .next (onRequest Kind.configGet seq payload (configGetOwner payload) s)

/-- CONFIG_SET (R181). -/
def execConfigSet (seq : Byte) (payload : List Byte) (s : State) : Host.Outcome State Fault Refusal :=
  .next (onRequest Kind.configSet seq payload (configSetOwner payload) s)

/-- BRIDGE_RESET (R178). -/
def execBridgeReset (seq : Byte) (payload : List Byte) (s : State) : Host.Outcome State Fault Refusal :=
  .next (onRequest Kind.bridgeReset seq payload (bridgeResetOwner payload) s)

end Sys2Proof.Machine
end

