-- ==== Sys2Proof/Machine/Dispatch.lean ====
section
/-! DEFINITION. The one dispatch: a command and its meaning. -/

namespace Sys2Proof.Machine

/-- What a command does to everything but the queue of waiting commands. -/
def exec (i : Instr) (s : State) : Host.Outcome State Fault Refusal :=
  match i with
  | .powerOn pins => Sys2Proof.Machine.execPowerOn pins s
  | .breakBegin => Sys2Proof.Machine.execBreakBegin s
  | .breakEnd => Sys2Proof.Machine.execBreakEnd s
  | .frameDiscard chars => Sys2Proof.Machine.execFrameDiscard chars s
  | .unknownKindRequest kind seq payload => Sys2Proof.Machine.execUnknownKindRequest kind seq payload s
  | .windowSet seq payload => Sys2Proof.Machine.execWindowSet seq payload s
  | .windowClear seq payload => Sys2Proof.Machine.execWindowClear seq payload s
  | .windowGet seq payload => Sys2Proof.Machine.execWindowGet seq payload s
  | .pageWrite seq payload => Sys2Proof.Machine.execPageWrite seq payload s
  | .pageRead seq payload => Sys2Proof.Machine.execPageRead seq payload s
  | .pageSweep seq payload => Sys2Proof.Machine.execPageSweep seq payload s
  | .accessRead seq payload => Sys2Proof.Machine.execAccessRead seq payload s
  | .accessWrite seq payload => Sys2Proof.Machine.execAccessWrite seq payload s
  | .accessSwap seq payload => Sys2Proof.Machine.execAccessSwap seq payload s
  | .accessFence seq payload => Sys2Proof.Machine.execAccessFence seq payload s
  | .accessAbort seq payload => Sys2Proof.Machine.execAccessAbort seq payload s
  | .slotGet seq payload => Sys2Proof.Machine.execSlotGet seq payload s
  | .slotEnroll seq payload => Sys2Proof.Machine.execSlotEnroll seq payload s
  | .slotReset seq payload => Sys2Proof.Machine.execSlotReset seq payload s
  | .slotOff seq payload => Sys2Proof.Machine.execSlotOff seq payload s
  | .slotOn seq payload => Sys2Proof.Machine.execSlotOn seq payload s
  | .holdAcquire seq payload => Sys2Proof.Machine.execHoldAcquire seq payload s
  | .holdCycle seq payload => Sys2Proof.Machine.execHoldCycle seq payload s
  | .holdRelease seq payload => Sys2Proof.Machine.execHoldRelease seq payload s
  | .postCredit seq payload => Sys2Proof.Machine.execPostCredit seq payload s
  | .attentionMask seq payload => Sys2Proof.Machine.execAttentionMask seq payload s
  | .faultRead seq payload => Sys2Proof.Machine.execFaultRead seq payload s
  | .faultClear seq payload => Sys2Proof.Machine.execFaultClear seq payload s
  | .noticeMask seq payload => Sys2Proof.Machine.execNoticeMask seq payload s
  | .echo seq payload => Sys2Proof.Machine.execEcho seq payload s
  | .configGet seq payload => Sys2Proof.Machine.execConfigGet seq payload s
  | .configSet seq payload => Sys2Proof.Machine.execConfigSet seq payload s
  | .bridgeReset seq payload => Sys2Proof.Machine.execBridgeReset seq payload s
  | .outputFrameBegin => Sys2Proof.Machine.execOutputFrameBegin s
  | .frameSent => Sys2Proof.Machine.execFrameSent s
  | .bridgeResetComplete => Sys2Proof.Machine.execBridgeResetComplete s
  | .transferGrant => Sys2Proof.Machine.execTransferGrant s
  | .superviseGrant => Sys2Proof.Machine.execSuperviseGrant s
  | .inboundGrant => Sys2Proof.Machine.execInboundGrant s
  | .holdGrant => Sys2Proof.Machine.execHoldGrant s
  | .responseCodeArrives code parityGood => Sys2Proof.Machine.execResponseCodeArrives code parityGood s
  | .readDataWordArrives word parity => Sys2Proof.Machine.execReadDataWordArrives word parity s
  | .responseTimerExpiry => Sys2Proof.Machine.execResponseTimerExpiry s
  | .retryDelayExpiry => Sys2Proof.Machine.execRetryDelayExpiry s
  | .swapResendDelayExpiry => Sys2Proof.Machine.execSwapResendDelayExpiry s
  | .settleTimerExpiry slot => Sys2Proof.Machine.execSettleTimerExpiry slot s
  | .attemptGapExpiry slot => Sys2Proof.Machine.execAttemptGapExpiry slot s
  | .checkTimerExpiry slot => Sys2Proof.Machine.execCheckTimerExpiry slot s
  | .pulseTimerExpiry slot => Sys2Proof.Machine.execPulseTimerExpiry slot s
  | .limitTimerExpiry => Sys2Proof.Machine.execLimitTimerExpiry s
  | .backOffExpiry slot => Sys2Proof.Machine.execBackOffExpiry slot s
  | .stampTick => Sys2Proof.Machine.execStampTick s
  | .presenceActive slot => Sys2Proof.Machine.execPresenceActive slot s
  | .presenceInactive slot => Sys2Proof.Machine.execPresenceInactive slot s
  | .attentionChange slot level => Sys2Proof.Machine.execAttentionChange slot level s
  | .windowDrainEnd window => Sys2Proof.Machine.execWindowDrainEnd window s
  | .fenceAtHead => Sys2Proof.Machine.execFenceAtHead s
  | .holdEnds => Sys2Proof.Machine.execHoldEnds s
  | .requestDriven => Sys2Proof.Machine.execRequestDriven s

end Sys2Proof.Machine
end

