-- ==== Sys2Proof/Safety.lean ====
section
/-! DEFINITION. What counts as a safe state: the laws the chapters' field tables and rules put on the state, each a
structure of named clauses, and what it takes for the link to accept a request (R169, R170), with the state that
acceptance and an immediate reply leave. Claims are stated in these terms. -/

namespace Sys2Proof.Machine

/-! ### Acceptance of a request -/

/-- The link accepts a request (R169, R170): OPEN, the framer in HUNT (R168) and the receive line high before its frame, a
payload a frame can hold (R167), no cached reply to the same request, no unreplied request of its sequence, and fewer
than 8 unreplied requests. -/
structure Accepts (kind seq : Byte) (payload : List Byte) (s : State) : Prop where
  opened : s.link.phase = .opened
  hunt   : s.link.framer = .hunt
  high   : s.link.lowRun = 0
  short  : payload.length ≤ Config.payloadBytes
  fresh  : ∀ e ∈ s.link.cache, ¬(e.seq = seq ∧ e.kind = kind ∧ e.crc = (requestFrame kind seq payload).crc)
  unused : ∀ r ∈ s.link.unreplied, r.seq ≠ seq
  room   : s.link.unreplied.length < Config.unrepliedRequests

/-- The state once a request is accepted, before its owner acts: a stale cache entry of the sequence has left (R169), and
the request is the youngest of the unreplied (R170). -/
def State.accepted (s : State) (kind seq : Byte) (payload : List Byte) : State :=
  { s with link := { s.link with
      cache := s.link.cache.filter fun e => e.seq ≠ seq
      unreplied := s.link.unreplied ++ [reqId kind seq payload s] } }

/-- The accepted request with its reply queued at once (R172). -/
def State.answered (s : State) (kind seq : Byte) (payload : List Byte) (st : Status) (body : List Byte) : State :=
  let a := s.accepted kind seq payload
  { a with link := { a.link with replies := a.link.replies ++
      [{ seq := seq, kind := kind, crc := (requestFrame kind seq payload).crc, status := st, body := body
         resend := false }] } }

/-! ### The rules' own conditions on fields -/

/-- WINDOW_SET's fields pass the table of R11. -/
structure WindowFields.Good (f : WindowFields) : Prop where
  index  : f.index.toNat ≤ 7
  size   : 16 ≤ f.sizeLog2.toNat ∧ f.sizeLog2.toNat ≤ 24
  kind   : f.kind.toNat ≤ 1
  access : f.access.toNat ≤ 1
  policy : f.policy.toNat ≤ 1
  base   : f.base.toNat % 2 ^ f.sizeLog2.toNat = 0
  direct : f.kind = 0 → f.slot.toNat ≤ 15 ∧ f.moduleBase.toNat % 2 ^ f.sizeLog2.toNat = 0
  paged  : f.kind = 1 → f.origin.toNat ≤ 2047 ∧ f.origin.toNat + 2 ^ f.sizeLog2.toNat / 4096 ≤ 2048

/-- The record a WINDOW_SET that is taken leaves (R11, R13). -/
def WindowFields.taken (f : WindowFields) : Window :=
  { state := .enabled, base := f.base, sizeLog2 := f.sizeLog2.toNat
    kind := if f.kind = 0 then .direct else .paged
    access := if f.access = 0 then .readWrite else .readOnly
    policy := if f.policy = 0 then .acknowledged else .posted
    useCount := 0
    slot := if f.kind = 0 then Fin.ofNat 16 f.slot.toNat else 0
    moduleBase := if f.kind = 0 then f.moduleBase else 0
    origin := if f.kind = 0 then 0 else f.origin.toNat
    clearReply := none }

/-- Two windows share an address of bridge space (R12). -/
def Window.SharesWith (a b : Window) : Prop :=
  ∃ x : Nat, a.base.toNat ≤ x ∧ x < a.base.toNat + 2 ^ a.sizeLog2 ∧ b.base.toNat ≤ x ∧
    x < b.base.toNat + 2 ^ b.sizeLog2

/-- A set of values passes the last check of R28. -/
structure PageSet.Good (p : PageSet) : Prop where
  valid  : p.valid.toNat ≤ 1
  access : p.access.toNat ≤ 1
  slot   : p.slot.toNat ≤ 15
  frame  : p.frame.toNat ≤ 4095

/-- The entry a set of values leaves (R29). -/
def PageSet.taken (p : PageSet) : PageEntry :=
  { valid := p.valid = 1, slot := Fin.ofNat 16 p.slot.toNat, frame := BitVec.ofNat 12 p.frame.toNat
    access := if p.access = 0 then .readWrite else .readOnly, referenced := false, written := false }

/-- Start, length and kind of an access request whose payload fits (R38, R188); nothing for any other command. -/
def accessOf : Instr → Option (Word × Nat × XferKind)
  | .accessRead _ payload => (parseAccessRead payload).map fun x => (x.1, x.2, .read)
  | .accessWrite _ payload => (parseAccessWrite payload).map fun x => (x.1, x.2.length, .write x.2)
  | .accessSwap _ payload => (parseAccessSwap payload).map fun x => (x.1, 4, .swap x.2.1 x.2.2)
  | _ => none

/-- The three access requests by kind code. -/
def isAccessKind (kind : Byte) : Bool :=
  kind = Kind.accessRead || kind = Kind.accessWrite || kind = Kind.accessSwap

/-! ### Laws of the tables -/

/-- The number of queued transfers through a window. -/
def State.usersOf (s : State) (w : WindowId) : Nat :=
  s.xfer.queue.countP fun e =>
    match e with
    | .transfer t => t.window = w
    | .fence _ => false

/-- The window table and the transfer queue (R2, R4, R7, R10, R11, R14, R15, R36, R51). -/
structure State.WindowLaw (s : State) : Prop where
  queue    : s.xfer.queue.length ≤ Config.queueEntries
  failures : s.xfer.postedFailures ≤ 65535
  uses     : ∀ w, (s.window w).useCount = s.usersOf w
  closing  : ∀ w, (s.window w).state = .closing → 0 < (s.window w).useCount
  disabled : ∀ w, (s.window w).state = .disabled → (s.window w).useCount = 0
  owed     : ∀ w, (s.window w).clearReply.isSome = true ↔ (s.window w).state = .closing
  size     : ∀ w, 16 ≤ (s.window w).sizeLog2 ∧ (s.window w).sizeLog2 ≤ 24
  aligned  : ∀ w, (s.window w).base.toNat % 2 ^ (s.window w).sizeLog2 = 0 ∧
               (s.window w).moduleBase.toNat % 2 ^ (s.window w).sizeLog2 = 0
  mapped   : ∀ w, (s.window w).kind = .paged → (s.window w).origin + 2 ^ (s.window w).sizeLog2 / 4096 ≤ 2048
  apart    : ∀ v w, v ≠ w → (s.window v).state ≠ .disabled → (s.window w).state ≠ .disabled →
               (s.window v).meets (s.window w) = false

/-- An INVALID page entry has both indications clear (R23, R29). -/
def State.PageLaw (s : State) : Prop :=
  ∀ i, (s.page i).valid = false → (s.page i).referenced = false ∧ (s.page i).written = false

/-- The counts with a bound, and the parameter ranges (R130, R145, R181). -/
structure State.CountLaw (s : State) : Prop where
  credits : s.inb.credits ≤ Config.credits
  params  : ∀ p : ParamId, p.inRange (s.params.get p) = true

/-- The fault list and the notice unit (R148, R151, R153, R157-R161). -/
structure State.FaultLaw (s : State) : Prop where
  length  : s.faults.entries.length ≤ Config.faultRecords
  numbers : ∀ k e, s.faults.entries[k]? = some e →
              e.record.number + BitVec.ofNat 32 (s.faults.entries.length - k) = s.faults.next
  given   : s.faults.entries ≠ [] → s.faults.given = true
  masked  : s.notices.faultEnabled = false → ∀ e ∈ s.faults.entries, e.pending = false
  slots   : s.notices.slotEnabled = false → ∀ i : SlotId, s.notices.slotPending[i] = false
  holdEnd : s.notices.holdEnabled = false → s.notices.holdEnd = none

/-! ### Laws of the link -/

/-- The host link (R164, R166, R169, R170, R173, R178). -/
structure State.LinkLaw (s : State) : Prop where
  unreplied : s.link.unreplied.length ≤ Config.unrepliedRequests
  seqs      : (s.link.unreplied.map ReqId.seq).Nodup
  cache     : s.link.cache.length ≤ Config.cacheEntries
  cacheSeqs : (s.link.cache.map CacheEntry.seq).Nodup
  waits     : s.link.phase = .resetWait → s.link.resetTaken = true
  shut      : s.link.resetTaken = true → s.link.phase ≠ .opened
  low       : s.link.phase = .brk ↔ s.pins.rxLow = true
  run       : s.link.lowRun < Config.breakTimes
  broken    : s.link.phase = .brk → s.link.lowRun = 0

/-! ### Laws of the slots -/

/-- The states in which a slot's timer of a kind runs (R86). -/
def TimerKind.fits : TimerKind → SlotState → Bool
  | .settle, st => st = .settling
  | .gap, st => st = .enrolling
  | .check, st => st.inService
  | .pulse, st => st = .resetting

/-- The supervisor's field table (R84, R86, R91, R93, R94, R96). -/
structure State.SlotLaw (s : State) : Prop where
  fault     : ∀ i, (s.slot i).faultCause.isSome = true ↔ (s.slot i).state = .faulted
  timer     : ∀ i t, (s.slot i).timer = some t → t.kind.fits (s.slot i).state = true
  settling  : ∀ i, (s.slot i).state = .settling → timerRuns i .settle s = true
  resetting : ∀ i, (s.slot i).state = .resetting → timerRuns i .pulse s = true
  step      : ∀ i, (s.slot i).step ≠ .none → (s.slot i).state = .enrolling ∧ (s.slot i).timer = none
  held      : ∀ i d, (s.slot i).held = some d → (s.slot i).step = .baselineRead ∧ d.layoutGood = true
  copy      : ∀ i d, (s.slot i).descriptor = some d → d.layoutGood = true
  service   : ∀ i, (s.slot i).state.inService = true → (s.slot i).descriptor.isSome = true
  enroll    : ∀ i, (s.slot i).enrollReply.isSome = true → (s.slot i).state = .enrolling
  silence   : ∀ i, (s.slot i).silence ≤ 15
  work      : ∀ w ∈ s.sup.work, (s.slot w.slot).state = .enrolling ∨ (s.slot w.slot).state.inService = true

/-! ### Laws of the backplane -/

/-- The grant, the transaction in progress and the arbiter (R63, R73-R77, R114). -/
structure State.GrantLaw (s : State) : Prop where
  tx       : ∀ t, s.ctrl.tx = some t → s.arb.holder = some t.requester
  pair     : s.xfer.pair.isSome = true → s.arb.holder = some .transfer
  held     : s.hold.state = .held ↔ s.arb.holder = some .hold
  cycle    : ∀ t, s.ctrl.tx = some t → t.requester = .hold → s.hold.cycle.isSome = true
  free     : s.arb.choice.isSome = true → s.arb.holder = none
  chosen   : ∀ r, s.arb.choice = some r → s.arb.waiting.has r = true
  busy     : s.arb.holder = none → s.arb.choice = none → ∀ r, s.arb.waiting.has r = false
  notHeld  : ∀ r, s.arb.holder = some r → s.arb.waiting.has r = false
  pending  : s.arb.choice = some .hold → s.hold.state = .pending
  turn     : s.arb.turn ≤ 16
  turnRoom : s.arb.choice = some .transfer → s.arb.turn < 16
  turnZero : s.arb.waiting.inbound = false → s.arb.turn = 0

/-- The hold unit's field table (R114, R120, R121). -/
structure State.HoldLaw (s : State) : Prop where
  chosen  : s.arb.choice = some .hold → s.hold.state = .pending
  acquire : s.hold.acquire.isSome = true ↔ s.hold.state = .pending
  limit   : s.hold.limit.isSome = true ↔ s.hold.state ≠ .idle
  timer   : s.hold.limitTimer.isSome = true → s.hold.state = .held ∧ s.hold.endCause = none
  ending  : s.hold.endCause.isSome = true → s.hold.state = .held
  release : s.hold.releaseReply.isSome = true → s.hold.endCause.isSome = true
  cycle   : s.hold.cycle.isSome = true → s.hold.state = .held
  lasts   : s.hold.endCause.isSome = true → s.hold.cycle.isSome = true ∨ s.link.resetTaken = true
  queue   : s.hold.cycles ≠ [] → s.hold.cycle.isSome = true ∨ s.link.resetTaken = true

/-- What a service of the inbound engine has reserved and read, by its step (R129, R136-R139). -/
def Service.fits (v : Service) (b : Inbound) : Prop :=
  match v.step with
  | .header | .discardTake => b.reserved = 0
  | .body => b.posts.length < Config.posts ∧ b.reserved = v.length ∧ v.body.length < v.length
  | .take => b.posts.length < Config.posts ∧ b.reserved = v.length ∧ v.body.length = v.length

/-- A transaction of the inbound engine is that of its service, with the bytes of the words received so far. -/
def Service.runs (v : Service) (t : Tx) : Prop :=
  t.addr = v.tx.addr ∧ t.count = v.tx.count ∧ t.command = v.tx.command ∧
    t.readData.length = min t.count (4 * t.words - t.addr.toNat % 4)

/-- The staging store never holds more than its 32 posts and 8192 bytes (R128, R129). -/
structure State.PostLaw (s : State) : Prop where
  posts   : s.inb.posts.length ≤ Config.posts
  staging : s.inb.queuedBytes + s.inb.reserved ≤ Config.stagingBytes
  idle    : s.inb.service = none → s.inb.reserved = 0
  service : ∀ v, s.inb.service = some v → v.fits s.inb
  tx      : ∀ t, s.ctrl.tx = some t → t.requester = .inbound → ∃ v, s.inb.service = some v ∧ v.runs t

end Sys2Proof.Machine
end

