-- ==== Sys2Proof/Certificates/Slice0/Obligations.lean ====
section
/-! DEFINITION. The statements for the provers, chapter by chapter of the manual. Each names the rule it comes from. A
request is stated for a link that accepts it (`Accepts`); what becomes of the others is `RequestExamination`. -/

open Sys2Proof Sys2Proof.Machine

/-! ### The block and the receipt of requests -/

/-- A step takes the command at the front of the queue and runs it on the state with the queue's rest: the commands of
the one sender are taken in the order sent (log 9), and an empty queue leaves the block idle (log 8), both the model's
choices. No command stops the block. -/
def Obligations.StepRunsFrontCommand : Prop :=
  (∀ (c : Instr) (s : State), step { s with pending := c :: s.pending } = exec c s) ∧
  (∀ s : State, step { s with pending := [] } = .next { s with pending := [] }) ∧
  (∀ (c : Instr) (s : State), ∃ t, exec c s = .next t)

/-- R169: what becomes of a good request frame that comes with the framer in HUNT and the receive line high before it,
line by line, for every request of the table: discarded in RESET_WAIT; answered again from a cache entry of its sequence,
kind and CRC (R173: one copy waits at a time; that the copy joins a reply queue of any length, past R172's 16 too, is the
model's choice, log 33); discarded while its sequence is unreplied; a stale cache entry removed; OVERLOAD through the
overload record with 8 unreplied; and otherwise accepted. A frame that comes otherwise, among other characters, after a low line or in
BREAK, is its levels, and a request found in them is passed on to the same examination (`FramerReceives`). -/
def Obligations.RequestExamination : Prop :=
  ∀ (c : Instr) (kind seq : Byte) (payload : List Byte) (s : State),
    c.wf = true → c.request = some (kind, seq, payload) → s.link.framer = .hunt → s.link.lowRun = 0 →
    (s.link.phase = .resetWait → exec c s = .next s) ∧
    (s.link.phase = .opened →
      (∀ e, s.link.cache.find? (fun e => e.seq = seq ∧ e.kind = kind ∧ e.crc = (requestFrame kind seq payload).crc) =
          some e →
        ((∃ r ∈ s.link.replies, r.resend = true ∧ r.seq = e.seq ∧ r.kind = e.kind ∧ r.crc = e.crc) →
          exec c s = .next s) ∧
        ((∀ r ∈ s.link.replies, ¬(r.resend = true ∧ r.seq = e.seq ∧ r.kind = e.kind ∧ r.crc = e.crc)) →
          exec c s = .next { s with link := { s.link with
            replies := s.link.replies ++ [{ seq := e.seq, kind := e.kind, crc := e.crc, status := e.status,
                                            body := e.body, resend := true }] } })) ∧
      ((∀ e ∈ s.link.cache, ¬(e.seq = seq ∧ e.kind = kind ∧ e.crc = (requestFrame kind seq payload).crc)) →
        ((∃ r ∈ s.link.unreplied, r.seq = seq) → exec c s = .next s) ∧
        ((∀ r ∈ s.link.unreplied, r.seq ≠ seq) → 8 ≤ s.link.unreplied.length →
          exec c s = .next { s with link := { s.link with
            cache := s.link.cache.filter fun e => e.seq ≠ seq
            overload := some (seq, kind) } }) ∧
        ((∀ r ∈ s.link.unreplied, r.seq ≠ seq) → s.link.unreplied.length < 8 →
          ∃ t, exec c s = .next t ∧
            t.link.unreplied = s.link.unreplied ++ [{ seq := seq, kind := kind, session := s.link.session
                                                      crc := (requestFrame kind seq payload).crc }] ∧
            t.link.cache = s.link.cache.filter fun e => e.seq ≠ seq)))

/-- Every request command is its frame's levels on the receive line, as FRAME_DISCARD gives any levels (R165). R166:
levels that hold the line low for two character times, counted from the levels of the command before on, are a break: it
begins as BREAK_BEGIN's does, within the group that completes it, and a high level ends it as BREAK_END does; in BREAK the
framer receives nothing. R168: other levels are characters. They continue the frame in progress, each good REQUEST frame
found among them is passed on in its turn as that request's own command would be with the framer in HUNT, and nothing
else changes but the framer and the low run of the line. In HUNT the framer passes over characters until a sync byte; it
discards a frame whose length is over 4160 or whose CRC does not match and hunts on after its sync byte, passes over a
good frame of another class, passes on the request of a good REQUEST frame and hunts on after its CRC, keeps a frame that
has not ended, and discards a frame with a framing error and hunts on after the faulty character. What a frame in
progress then receives is its continuation. That the characters of one command are received together, in one step, is the
model's choice (log 11), and so is it that the low run goes on from one command's levels to the next's (log 32) and that
the group in which a break ends is no character (log 28). -/
def Obligations.FramerReceives : Prop :=
  ((∀ (c : Instr) (kind seq : Byte) (payload : List Byte) (s : State), c.wf = true →
      c.request = some (kind, seq, payload) →
      exec c s = exec (.frameDiscard (requestFrame kind seq payload).line) s) ∧
    (∀ (cs : List LineChar) (s : State) (run : Nat) (h : Heard), s.link.phase ≠ .brk →
      (∀ front c rest, cs = front ++ c :: rest → front.foldl runAfter s.link.lowRun + lowAtStart c < 20) →
      run = cs.foldl runAfter s.link.lowRun → h = s.link.framer.hear (cs.filterMap receiveChar) →
      exec (.frameDiscard cs) s = .next
        ((h.requests.foldl (fun s q => passOn q s) { s with link := { s.link with framer := .hunt, lowRun := run } }).withFramer
          h.framer)) ∧
    (∀ (q : RxRequest) (s : State), s.link.phase ≠ .brk → s.link.framer = .hunt → s.link.lowRun = 0 →
      q.payload.length ≤ Config.payloadBytes →
      exec (commandOf q.kind q.seq q.payload) s = .next (passOn q s))) ∧
  ((∀ (front rest : List LineChar) (c : LineChar) (s v w : State), exec (.frameDiscard front) s = .next v →
      v.link.phase ≠ .brk → 20 ≤ v.link.lowRun + lowAtStart c → exec .breakBegin v = .next w →
      (c = 0 → exec (.frameDiscard (front ++ c :: rest)) s = exec (.frameDiscard rest) w) ∧
      (∀ x, c ≠ 0 → exec .breakEnd w = .next x →
        exec (.frameDiscard (front ++ c :: rest)) s =
          exec (.frameDiscard rest) { x with link := { x.link with lowRun := lowAtEnd c } })) ∧
    (∀ (c : LineChar) (cs : List LineChar) (s : State), s.link.phase = .brk →
      exec (.frameDiscard []) s = .next s ∧
      (c = 0 → exec (.frameDiscard (c :: cs)) s = exec (.frameDiscard cs) s) ∧
      (∀ x, c ≠ 0 → exec .breakEnd s = .next x →
        exec (.frameDiscard (c :: cs)) s =
          exec (.frameDiscard cs) { x with link := { x.link with lowRun := lowAtEnd c } }))) ∧
  ((∀ (c : RxChar) (cs : List RxChar), c ≠ .byte 0x5A → Framer.hunt.hear (c :: cs) = Framer.hunt.hear cs) ∧
    (∀ (a b c d e : Byte) (cs : List RxChar), Config.payloadBytes < (le16 d e).toNat →
      Framer.hunt.hear ([.byte 0x5A, .byte a, .byte b, .byte c, .byte d, .byte e] ++ cs) =
        Framer.hunt.hear ([.byte a, .byte b, .byte c, .byte d, .byte e] ++ cs)) ∧
    (∀ (f : Frame) (x y : Byte) (cs : List RxChar), f.payload.length ≤ Config.payloadBytes → le16 x y ≠ f.crc →
      Framer.hunt.hear (((0x5A#8 :: f.covered ++ [x, y]).map .byte) ++ cs) =
        Framer.hunt.hear (((f.covered ++ [x, y]).map .byte) ++ cs)) ∧
    (∀ (f : Frame) (cs : List RxChar), f.payload.length ≤ Config.payloadBytes → f.cls ≠ .request →
      Framer.hunt.hear (f.bytes.map .byte ++ cs) = Framer.hunt.hear cs) ∧
    (∀ (f : Frame) (cs : List RxChar), f.payload.length ≤ Config.payloadBytes → f.cls = .request →
      Framer.hunt.hear (f.bytes.map .byte ++ cs) =
        { Framer.hunt.hear cs with
          requests := { kind := f.kind, seq := f.seq, payload := f.payload } :: (Framer.hunt.hear cs).requests }) ∧
    (∀ bs : List Byte, (bs.length < 5 ∨ headerLength bs ≤ Config.payloadBytes ∧ bs.length < 7 + headerLength bs) →
      Framer.hunt.hear (.byte 0x5A :: bs.map .byte) = { requests := [], framer := .frame (0x5A :: bs) } ∧
      ∀ cs, Framer.hunt.hear (.byte 0x5A :: bs.map .byte ++ .framingError :: cs) = Framer.hunt.hear cs) ∧
    (∀ (bs : List Byte) (cs : List RxChar),
      (Framer.frame bs).hear cs = Framer.hunt.hear (bs.map .byte ++ cs)))

/-- R165: a character is a low start bit, eight data bits, least significant first, and a high stop bit; the receiver
takes it back as its byte, takes one whose stop bit is low as a framing error, unless the line stays low for a break
(`FramerReceives`), and takes no character from a line at rest. What is counted towards a break: the low levels a group
begins with, and those the line has been low for after it. The transmitter sends the characters of the frame on its line back to back, and the line is high otherwise. That
the receive line is given in tens of levels, each a character or a line at rest, is the model's choice (log 31). -/
def Obligations.LineCharacters : Prop :=
  (∀ b : Byte, (charLevels b).getLsbD 0 = false ∧ (∀ k, k < 8 → (charLevels b).getLsbD (k + 1) = b.getLsbD k) ∧
    (charLevels b).getLsbD 9 = true) ∧
  (∀ c : LineChar,
    (∀ b : Byte, c.getLsbD 0 = false → c.getLsbD 9 = true → (∀ k, k < 8 → c.getLsbD (k + 1) = b.getLsbD k) →
      receiveChar c = some (.byte b)) ∧
    (c.getLsbD 0 = false → c.getLsbD 9 = false → receiveChar c = some .framingError) ∧
    (c.getLsbD 0 = true → receiveChar c = none) ∧
    lowAtStart c ≤ 10 ∧ (∀ k, k < lowAtStart c → c.getLsbD k = false) ∧
    (lowAtStart c < 10 → c.getLsbD (lowAtStart c) = true) ∧
    (∀ run, c = 0 → runAfter run c = run + 10) ∧
    (∀ run, c ≠ 0 → runAfter run c = lowAtEnd c ∧ lowAtEnd c < 10 ∧ c.getLsbD (9 - lowAtEnd c) = true ∧
      ∀ k, k < lowAtEnd c → c.getLsbD (9 - k) = false)) ∧
  (∀ s : State,
    (s.link.transmitter = none → ∀ k, s.transmitLevel k = true) ∧
    (∀ f src, s.link.transmitter = some (f, src) →
      (∀ j b, f.bytes[j]? = some b → ∀ k, k < 10 → s.transmitLevel (10 * j + k) = (charLevels b).getLsbD k) ∧
      (∀ k, 10 * f.bytes.length ≤ k → s.transmitLevel k = true)))

/-- R167, R186: the part reads back, from the frame that carries it, every request it can receive. -/
def Obligations.RequestFrameRoundTrip : Prop :=
  ∀ c : Instr, c.wf = true → c.request.isSome = true → readFrame (writeFrame c) = some c

/-- R183, R188: the fields stand little-endian at the offsets of the request table, and a payload of another length
does not fit. -/
def Obligations.PayloadFields : Prop :=
  (∀ b0 b1 : Byte, (le16 b0 b1).toNat = b0.toNat + 256 * b1.toNat) ∧
  (∀ b0 b1 b2 : Byte, (le24 b0 b1 b2).toNat = b0.toNat + 256 * b1.toNat + 65536 * b2.toNat) ∧
  (∀ b0 b1 b2 b3 : Byte,
    (le32 b0 b1 b2 b3).toNat = b0.toNat + 256 * b1.toNat + 65536 * b2.toNat + 16777216 * b3.toNat) ∧
  (∀ i b0 b1 b2 b3 sz k ac wp sl m0 m1 m2 o0 o1 : Byte,
    parseWindowSet [i, b0, b1, b2, b3, sz, k, ac, wp, sl, m0, m1, m2, o0, o1] =
      some { index := i, base := le32 b0 b1 b2 b3, sizeLog2 := sz, kind := k, access := ac, policy := wp, slot := sl
             moduleBase := le24 m0 m1 m2, origin := le16 o0 o1 }) ∧
  (∀ (f0 f1 : Byte) (sets : List (Byte × Byte × Byte × Byte × Byte)), sets.length < 256 →
    parsePageWrite ([f0, f1, byteOf sets.length] ++ sets.flatMap fun x => [x.1, x.2.1, x.2.2.1, x.2.2.2.1, x.2.2.2.2]) =
      some ((le16 f0 f1).toNat, sets.map fun x =>
        { valid := x.1, access := x.2.1, slot := x.2.2.1, frame := le16 x.2.2.2.1 x.2.2.2.2 })) ∧
  (∀ p : List Byte,
    (parsePageWrite p).isSome = true ↔ 3 ≤ p.length ∧ p.length = 3 + 5 * (byteAt p 2).toNat) ∧
  (∀ f0 f1 n : Byte, parsePageRead [f0, f1, n] = some ((le16 f0 f1).toNat, n.toNat)) ∧
  (∀ f0 f1 c0 c1 : Byte, parsePageSweep [f0, f1, c0, c1] = some ((le16 f0 f1).toNat, (le16 c0 c1).toNat)) ∧
  (∀ s0 s1 s2 s3 l0 l1 : Byte,
    parseAccessRead [s0, s1, s2, s3, l0, l1] = some (le32 s0 s1 s2 s3, (le16 l0 l1).toNat)) ∧
  (∀ (s0 s1 s2 s3 : Byte) (data : List Byte),
    parseAccessWrite ([s0, s1, s2, s3] ++ data) = some (le32 s0 s1 s2 s3, data)) ∧
  (∀ s0 s1 s2 s3 c0 c1 c2 c3 n0 n1 n2 n3 : Byte,
    parseAccessSwap [s0, s1, s2, s3, c0, c1, c2, c3, n0, n1, n2, n3] =
      some (le32 s0 s1 s2 s3, le32 c0 c1 c2 c3, le32 n0 n1 n2 n3)) ∧
  (∀ l0 l1 : Byte, parseLimit [l0, l1] = some (le16 l0 l1).toNat) ∧
  (∀ c0 c1 v0 v1 : Byte, parseAttentionMask [c0, c1, v0, v1] = some (le16 c0 c1, le16 v0 v1)) ∧
  (∀ f0 f1 f2 f3 m : Byte, parseFaultRead [f0, f1, f2, f3, m] = some (le32 f0 f1 f2 f3, m.toNat)) ∧
  (∀ u0 u1 u2 u3 : Byte, parseFaultClear [u0, u1, u2, u3] = some (le32 u0 u1 u2 u3)) ∧
  (∀ p : List Byte, ((parseWindowSet p).isSome = true ↔ p.length = 15) ∧ ((parseByte p).isSome = true ↔ p.length = 1) ∧
    ((parsePageRead p).isSome = true ↔ p.length = 3) ∧ ((parsePageSweep p).isSome = true ↔ p.length = 4) ∧
    ((parseAccessRead p).isSome = true ↔ p.length = 6) ∧ ((parseAccessWrite p).isSome = true ↔ 4 ≤ p.length) ∧
    ((parseAccessSwap p).isSome = true ↔ p.length = 12) ∧ ((parseEmpty p).isSome = true ↔ p.length = 0) ∧
    ((parseLimit p).isSome = true ↔ p.length = 2) ∧ ((parseAttentionMask p).isSome = true ↔ p.length = 4) ∧
    ((parseFaultRead p).isSome = true ↔ p.length = 5) ∧ ((parseFaultClear p).isSome = true ↔ p.length = 4) ∧
    ((parseNoticeMask p).isSome = true ↔ p.length = 2))

/-! ### Windows and pages (chapters 1 and 2) -/

/-- R11 to R13: WINDOW_SET's checks in their order, and the record it leaves. -/
def Obligations.WindowSet : Prop :=
  ∀ (seq : Byte) (payload : List Byte) (s : State), Accepts Kind.windowSet seq payload s →
    (parseWindowSet payload = none →
      exec (.windowSet seq payload) s = .next (s.answered Kind.windowSet seq payload .malformed [])) ∧
    (∀ f, parseWindowSet payload = some f →
      (¬f.Good → exec (.windowSet seq payload) s = .next (s.answered Kind.windowSet seq payload .range [])) ∧
      (f.Good → ∀ w : WindowId, w.val = f.index.toNat →
        ((∃ v, v ≠ w ∧ (s.window v).state ≠ .disabled ∧ f.taken.SharesWith (s.window v)) →
          exec (.windowSet seq payload) s = .next (s.answered Kind.windowSet seq payload .overlap [])) ∧
        ((∀ v, v ≠ w → (s.window v).state ≠ .disabled → ¬f.taken.SharesWith (s.window v)) →
          ((s.window w).state = .closing ∨ (s.window w).state = .enabled ∧ 0 < (s.window w).useCount →
            exec (.windowSet seq payload) s = .next (s.answered Kind.windowSet seq payload .busy [])) ∧
          ((s.window w).state = .disabled ∨ (s.window w).state = .enabled ∧ (s.window w).useCount = 0 →
            exec (.windowSet seq payload) s =
              .next { s.answered Kind.windowSet seq payload .ok [] with windows := s.windows.set w f.taken }))))

/-- R14: WINDOW_CLEAR by the window's state. R15: the drain of a CLOSING window ends when the last entry through it
is removed, and WINDOW_DRAIN_END does the same where the use count stands at 0 (log 5); where no drain is due it changes
nothing, the model's choice (log 3). -/
def Obligations.WindowClearAndDrain : Prop :=
  (∀ (seq : Byte) (payload : List Byte) (s : State), Accepts Kind.windowClear seq payload s →
      (payload.length ≠ 1 →
        exec (.windowClear seq payload) s = .next (s.answered Kind.windowClear seq payload .malformed [])) ∧
      (∀ b : Byte, payload = [b] →
        (7 < b.toNat → exec (.windowClear seq payload) s = .next (s.answered Kind.windowClear seq payload .range [])) ∧
        (∀ w : WindowId, w.val = b.toNat →
          ((s.window w).state = .disabled →
            exec (.windowClear seq payload) s = .next (s.answered Kind.windowClear seq payload .ok [])) ∧
          ((s.window w).state = .enabled → (s.window w).useCount = 0 →
            exec (.windowClear seq payload) s =
              .next { s.answered Kind.windowClear seq payload .ok [] with
                windows := s.windows.set w { s.window w with state := .disabled } }) ∧
          ((s.window w).state = .enabled → 0 < (s.window w).useCount →
            exec (.windowClear seq payload) s =
              .next { s.accepted Kind.windowClear seq payload with
                windows := s.windows.set w
                  { s.window w with state := .closing, clearReply := some (reqId Kind.windowClear seq payload s) } }) ∧
          ((s.window w).state = .closing →
            exec (.windowClear seq payload) s = .next (s.answered Kind.windowClear seq payload .busy []))))) ∧
  ((∀ (w : WindowId) (r : ReqId) (s : State), (s.window w).state = .closing → (s.window w).useCount = 0 →
      (s.window w).clearReply = some r →
      exec (.windowDrainEnd w) s = .next (queueReply r .ok []
        { s with windows := s.windows.set w { s.window w with state := .disabled, clearReply := none } })) ∧
    (∀ (w : WindowId) (s : State), ¬((s.window w).state = .closing ∧ (s.window w).useCount = 0) →
      exec (.windowDrainEnd w) s = .next s) ∧
    (∀ (w : WindowId) (r : ReqId) (s : State), (s.window w).state = .closing → (s.window w).useCount = 1 →
      (s.window w).clearReply = some r →
      releaseWindow w s = queueReply r .ok []
        { s with windows := s.windows.set w { s.window w with state := .disabled, useCount := 0, clearReply := none } }) ∧
    (∀ (w : WindowId) (s : State), ((s.window w).state = .closing → 1 < (s.window w).useCount) →
      releaseWindow w s = { s with windows := s.windows.set w { s.window w with useCount := (s.window w).useCount - 1 } }))

/-- R18: WINDOW_GET returns the record of the window as it stands, its fields in the order and widths of the reply
table of chapter 10, and changes nothing but the link's own account of the request and its reply. An index greater
than 7 is refused RANGE and a payload that does not fit MALFORMED. -/
def Obligations.WindowGet : Prop :=
  ∀ (seq : Byte) (payload : List Byte) (s : State), Accepts Kind.windowGet seq payload s →
    (payload.length ≠ 1 →
      exec (.windowGet seq payload) s = .next (s.answered Kind.windowGet seq payload .malformed [])) ∧
    (∀ b : Byte, payload = [b] →
      (7 < b.toNat → exec (.windowGet seq payload) s = .next (s.answered Kind.windowGet seq payload .range [])) ∧
      (∀ w : WindowId, w.val = b.toNat →
        exec (.windowGet seq payload) s = .next (s.answered Kind.windowGet seq payload .ok
          ([(s.window w).state.code, byteOf (s.window w).useCount] ++ bytes32 (s.window w).base ++
            [byteOf (s.window w).sizeLog2, (s.window w).kind.code, (s.window w).access.code, (s.window w).policy.code,
             byteOf (s.window w).slot.val] ++ bytes24 (s.window w).moduleBase ++ countBytes (s.window w).origin))))

/-- R172: a reply of the present session joins the tail of the reply queue; one of an ended session is suppressed.
R170, R178: a kind code that names no request is answered UNKNOWN_KIND, and BRIDGE_RESET OK at once, or MALFORMED
with a payload; neither changes another block. -/
def Obligations.RepliesAndUnownedRequests : Prop :=
  (∀ (r : ReqId) (st : Status) (body : List Byte) (s : State),
      (r.session = s.link.session → queueReply r st body s = { s with link := { s.link with
        replies := s.link.replies ++
          [{ seq := r.seq, kind := r.kind, crc := r.crc, status := st, body := body, resend := false }] } }) ∧
      (r.session ≠ s.link.session → queueReply r st body s = s)) ∧
  ((∀ (kind seq : Byte) (payload : List Byte) (s : State), namesRequest kind = false → Accepts kind seq payload s →
      exec (.unknownKindRequest kind seq payload) s = .next (s.answered kind seq payload .unknownKind [])) ∧
    (∀ (seq : Byte) (payload : List Byte) (s : State), Accepts Kind.bridgeReset seq payload s →
      (payload ≠ [] →
        exec (.bridgeReset seq payload) s = .next (s.answered Kind.bridgeReset seq payload .malformed [])) ∧
      (payload = [] → exec (.bridgeReset seq payload) s = .next (s.answered Kind.bridgeReset seq payload .ok []))))

/-- R28: PAGE_WRITE's checks in their order, each refusal with no entry changed; and what a request that passes
leaves: the count entries from the first one take their sets of values in order with both indications clear, and no
other entry and nothing else changes. -/
def Obligations.PageWrite : Prop :=
  ∀ (seq : Byte) (payload : List Byte) (s : State), Accepts Kind.pageWrite seq payload s →
    ((payload.length < 3 ∨ payload.length ≠ 3 + 5 * (byteAt payload 2).toNat) →
      exec (.pageWrite seq payload) s = .next (s.answered Kind.pageWrite seq payload .malformed [])) ∧
    (∀ first sets, parsePageWrite payload = some (first, sets) →
      (sets.length = 0 ∨ 64 < sets.length ∨ 2047 < first + sets.length - 1 ∨ (∃ p ∈ sets, ¬p.Good) →
        exec (.pageWrite seq payload) s = .next (s.answered Kind.pageWrite seq payload .range [])) ∧
      (1 ≤ sets.length → sets.length ≤ 64 → first + sets.length - 1 ≤ 2047 → (∀ p ∈ sets, p.Good) →
        ∃ t, exec (.pageWrite seq payload) s = .next t ∧
          t = { s.answered Kind.pageWrite seq payload .ok [] with pages := t.pages } ∧
          (∀ k p, sets[k]? = some p → t.page (first + k) = p.taken) ∧
          (∀ i, i < first ∨ first + sets.length ≤ i → t.page i = s.page i)))

/-- R30 and R31: PAGE_READ returns its entries, in the layout of the reply table of chapter 10, and changes nothing;
PAGE_SWEEP returns the indications of its range and clears them, and changes nothing else; both refuse a payload
that does not fit MALFORMED and a bad count or range RANGE. -/
def Obligations.PageReadAndSweep : Prop :=
  ∀ (seq : Byte) (payload : List Byte) (s : State),
    (Accepts Kind.pageRead seq payload s →
      (payload.length ≠ 3 →
        exec (.pageRead seq payload) s = .next (s.answered Kind.pageRead seq payload .malformed [])) ∧
      (∀ first count, parsePageRead payload = some (first, count) →
        (count = 0 ∨ 64 < count ∨ 2047 < first + count - 1 →
          exec (.pageRead seq payload) s = .next (s.answered Kind.pageRead seq payload .range [])) ∧
        (1 ≤ count → count ≤ 64 → first + count - 1 ≤ 2047 →
          exec (.pageRead seq payload) s = .next (s.answered Kind.pageRead seq payload .ok
            ((List.range count).flatMap fun k =>
              [boolByte (s.page (first + k)).valid, (s.page (first + k)).access.code,
               byteOf (s.page (first + k)).slot.val] ++ countBytes (s.page (first + k)).frame.toNat ++
              [flagBit (s.page (first + k)).referenced 0 ||| flagBit (s.page (first + k)).written 1]))))) ∧
    (Accepts Kind.pageSweep seq payload s →
      (payload.length ≠ 4 →
        exec (.pageSweep seq payload) s = .next (s.answered Kind.pageSweep seq payload .malformed [])) ∧
      (∀ first count, parsePageSweep payload = some (first, count) →
        (count = 0 ∨ 256 < count ∨ 2047 < first + count - 1 →
          exec (.pageSweep seq payload) s = .next (s.answered Kind.pageSweep seq payload .range [])) ∧
        (1 ≤ count → count ≤ 256 → first + count - 1 ≤ 2047 →
          ∃ t, exec (.pageSweep seq payload) s = .next t ∧
            t = { s.answered Kind.pageSweep seq payload .ok
                    ((List.range count).map fun k =>
                      flagBit (s.page (first + k)).referenced 0 ||| flagBit (s.page (first + k)).written 1) with
                  pages := t.pages } ∧
            (∀ i, first ≤ i → i < first + count →
              t.page i = { s.page i with referenced := false, written := false }) ∧
            (∀ i, i < first ∨ first + count ≤ i → t.page i = s.page i))))

/-! ### Outbound transfers (chapter 3) -/

/-- R38: the checks of an access in their order, each with its refusal; a refused access changes nothing but the
link and what the arbiter has waiting. An access that passes them, whatever the page map, the slots and the hold
unit say, makes a QUEUED entry at the tail, raises its window's use count, and is answered POSTED at once when it is
a write through a POSTED window. -/
def Obligations.AccessAcceptance : Prop :=
  (∀ (c : Instr) (kind seq : Byte) (payload : List Byte) (s : State) (start : Word) (length : Nat) (x : XferKind)
      (w : WindowId),
      c.request = some (kind, seq, payload) → Accepts kind seq payload s → accessOf c = some (start, length, x) →
      1 ≤ length → length ≤ 4096 → s.xfer.queue.length < 16 → hit s start = some w →
      start.toNat + length ≤ (s.window w).base.toNat + 2 ^ (s.window w).sizeLog2 →
      (x.isWrite = true → (s.window w).access = .readWrite) →
      (∀ a b, x = .swap a b → start.toNat % 4 = 0) →
      ((∃ data, x = .write data) → (s.window w).policy = .posted →
        exec c s = .next (settle { s.answered kind seq payload .posted [] with
          windows := s.windows.set w { s.window w with useCount := (s.window w).useCount + 1 }
          xfer := { s.xfer with queue := s.xfer.queue ++ [.transfer
            { req := reqId kind seq payload s, kind := x, window := w, start := start, length := length
              posted := true }] } })) ∧
      ((∀ data, x ≠ .write data) ∨ (s.window w).policy = .acknowledged →
        exec c s = .next (settle { s.accepted kind seq payload with
          windows := s.windows.set w { s.window w with useCount := (s.window w).useCount + 1 }
          xfer := { s.xfer with queue := s.xfer.queue ++ [.transfer
            { req := reqId kind seq payload s, kind := x, window := w, start := start, length := length
              posted := false }] } }))) ∧
  (∀ (c : Instr) (kind seq : Byte) (payload : List Byte) (s : State),
      c.wf = true → c.request = some (kind, seq, payload) → isAccessKind kind = true → Accepts kind seq payload s →
      ((∀ start length x, accessOf c = some (start, length, x) → length = 0 ∨ 4096 < length) →
        exec c s = .next (settle (s.answered kind seq payload .malformed []))) ∧
      (∀ start length x, accessOf c = some (start, length, x) → 1 ≤ length → length ≤ 4096 →
        (16 ≤ s.xfer.queue.length → exec c s = .next (settle (s.answered kind seq payload .queueFull []))) ∧
        (s.xfer.queue.length < 16 →
          ((∀ w, (s.window w).holds start = false) →
            exec c s = .next (settle (s.answered kind seq payload .noWindow []))) ∧
          (∀ w, hit s start = some w →
            ((s.window w).base.toNat + 2 ^ (s.window w).sizeLog2 < start.toNat + length →
              exec c s = .next (settle (s.answered kind seq payload .range []))) ∧
            (start.toNat + length ≤ (s.window w).base.toNat + 2 ^ (s.window w).sizeLog2 →
              (x.isWrite = true → (s.window w).access = .readOnly →
                exec c s = .next (settle (s.answered kind seq payload .readOnly []))) ∧
              ((s.window w).access = .readWrite → (∃ a b, x = .swap a b) → start.toNat % 4 ≠ 0 →
                exec c s = .next (settle (s.answered kind seq payload .misaligned []))))))))

/-- R4 and R12: a window holds an address while it is ENABLED and the address lies in its range, and in every state
that keeps the window law at most one window holds an address: the hit decision has one answer. R8 to R10 and R22:
the translation of a bridge address through a window. -/
def Obligations.HitAndTranslation : Prop :=
  (∀ (s : State) (a : Word), s.WindowLaw →
      (∀ w, (s.window w).holds a = true ↔ (s.window w).state = .enabled ∧ (s.window w).base.toNat ≤ a.toNat ∧
        a.toNat < (s.window w).base.toNat + 2 ^ (s.window w).sizeLog2) ∧
      (∀ v w, (s.window v).holds a = true → (s.window w).holds a = true → v = w) ∧
      (∀ w, hit s a = some w ↔ (s.window w).holds a = true)) ∧
  (∀ (s : State) (w : Window) (a : Word) (write : Bool),
      (w.kind = .direct → Machine.translate s w a write = .to w.slot (w.moduleBase + (a - w.base).setWidth 24) none) ∧
      (w.kind = .paged → ∀ n, n = w.origin + (a - w.base).toNat / 4096 →
        ((s.page n).valid = false → Machine.translate s w a write = .pageFault) ∧
        ((s.page n).valid = true → ∀ m : ModAddr, m.toNat = (s.page n).frame.toNat * 4096 + (a - w.base).toNat % 4096 →
          (write = true → (s.page n).access = .readOnly → Machine.translate s w a write = .readOnly (s.page n).slot m) ∧
          (write = false ∨ (s.page n).access = .readWrite → Machine.translate s w a write = .to (s.page n).slot m (some n)))))

/-- R52: ACCESS_FENCE, and FENCE_AT_HEAD for a fence that stands at the head (log 5). -/
def Obligations.Fence : Prop :=
  (∀ (seq : Byte) (payload : List Byte) (s : State), Accepts Kind.accessFence seq payload s →
    (payload ≠ [] →
      exec (.accessFence seq payload) s = .next (settle (s.answered Kind.accessFence seq payload .malformed []))) ∧
    (payload = [] → 16 ≤ s.xfer.queue.length →
      exec (.accessFence seq payload) s = .next (settle (s.answered Kind.accessFence seq payload .queueFull []))) ∧
    (payload = [] → s.xfer.queue = [] →
      exec (.accessFence seq payload) s =
        .next (settle { s.answered Kind.accessFence seq payload .ok (countBytes s.xfer.postedFailures) with
          xfer := { s.xfer with postedFailures := 0 } })) ∧
    (payload = [] → s.xfer.queue.length < 16 → ∀ x rest, s.xfer.queue = .transfer x :: rest →
      exec (.accessFence seq payload) s = .next (settle { s.accepted Kind.accessFence seq payload with
        xfer := { s.xfer with
          queue := .transfer x :: rest ++ [.fence (reqId Kind.accessFence seq payload s)] } }))) ∧
  (∀ (r : ReqId) (rest : List QEntry) (s : State), s.xfer.queue = .fence r :: rest →
    (∀ q, rest.head? ≠ some (.fence q)) →
    exec .fenceAtHead s = .next (settle (queueReply r .ok (countBytes s.xfer.postedFailures)
      { s with xfer := { s.xfer with queue := rest, postedFailures := 0 } }))) ∧
  (∀ s : State, (∀ r, s.xfer.queue.head? ≠ some (.fence r)) → exec .fenceAtHead s = .next (settle s))

/-- R53: an ACCESS_ABORT that does not fit, or whose number no entry carries. R53 to R55: an ACCESS_ABORT that finds
its entry. An ISSUING head is marked; a QUEUED or PAUSED head, a fence, and any entry behind the head leave the queue
at once, their own ABORTED reply (unless posted) ahead of the abort's OK with the bytes completed, 0 for a fence. R48,
R15, R52: what the removal brings: the last entry through a CLOSING window ends its drain, answered after the abort,
and a fence that becomes the head is answered with the posted-failure count. -/
def Obligations.Abort : Prop :=
  (∀ (seq : Byte) (payload : List Byte) (s : State), Accepts Kind.accessAbort seq payload s →
      (payload.length ≠ 1 →
        exec (.accessAbort seq payload) s = .next (settle (s.answered Kind.accessAbort seq payload .malformed []))) ∧
      (∀ q : Byte, payload = [q] → (∀ e ∈ s.xfer.queue, e.seq ≠ q) →
        exec (.accessAbort seq payload) s = .next (settle (s.answered Kind.accessAbort seq payload .notFound [])))) ∧
  (∀ (seq q : Byte) (s : State), Accepts Kind.accessAbort seq [q] s →
      (∀ x rest, s.xfer.queue = .transfer x :: rest → x.req.seq = q → x.state = .issuing →
        exec (.accessAbort seq [q]) s = .next (settle { s.accepted Kind.accessAbort seq [q] with
          xfer := { s.xfer with
            queue := .transfer { x with aborts := x.aborts ++ [reqId Kind.accessAbort seq [q] s] } :: rest } })) ∧
      (∀ (front rest : List QEntry) (r : ReqId), s.xfer.queue = front ++ .fence r :: rest →
        (∀ e ∈ front, e.seq ≠ q) → r.seq = q → (∀ r, (front ++ rest).head? ≠ some (.fence r)) →
        exec (.accessAbort seq [q]) s = .next (settle { s with
          xfer := { s.xfer with queue := front ++ rest }
          link := { (s.accepted Kind.accessAbort seq [q]).link with
            replies := s.link.replies ++
              (if r.session = s.link.session then
                [{ seq := q, kind := r.kind, crc := r.crc, status := .aborted, body := [], resend := false }] else []) ++
              [{ seq := seq, kind := Kind.accessAbort, crc := (requestFrame Kind.accessAbort seq [q]).crc, status := .ok
                 body := [0, 0], resend := false }] } })) ∧
      (∀ (front rest : List QEntry) (x : Transfer) (answers : List Reply), s.xfer.queue = front ++ .transfer x :: rest →
        (∀ e ∈ front, e.seq ≠ q) → x.req.seq = q → (front = [] → x.state ≠ .issuing) →
        answers = (if x.posted = false ∧ x.req.session = s.link.session then
            [{ seq := q, kind := x.req.kind, crc := x.req.crc, status := .aborted, resend := false
               body := x.replyBody .aborted {} }] else []) ++
          [{ seq := seq, kind := Kind.accessAbort, crc := (requestFrame Kind.accessAbort seq [q]).crc, status := .ok
             body := countBytes x.completed, resend := false }] →
        ((∀ r, (front ++ rest).head? ≠ some (.fence r)) → (s.window x.window).state = .enabled →
          ∃ t, exec (.accessAbort seq [q]) s = .next t ∧
            t = { s with link := t.link, arb := t.arb, xfer := { s.xfer with queue := front ++ rest }
                         windows := s.windows.set x.window
                           { s.window x.window with useCount := (s.window x.window).useCount - 1 } } ∧
            t.link = { (s.accepted Kind.accessAbort seq [q]).link with replies := s.link.replies ++ answers } ∧
            (t.arb.choice = some .transfer → ∃ y more, front ++ rest = .transfer y :: more ∧ y.state = .queued)) ∧
        (∀ c, (∀ r, (front ++ rest).head? ≠ some (.fence r)) → (s.window x.window).state = .closing →
          (s.window x.window).useCount = 1 → (s.window x.window).clearReply = some c →
          ∃ t, exec (.accessAbort seq [q]) s = .next t ∧
            t = { s with link := t.link, arb := t.arb, xfer := { s.xfer with queue := front ++ rest }
                         windows := s.windows.set x.window
                           { s.window x.window with state := .disabled, useCount := 0, clearReply := none } } ∧
            t.link = { (s.accepted Kind.accessAbort seq [q]).link with
              replies := s.link.replies ++ answers ++ (if c.session = s.link.session then
                [{ seq := c.seq, kind := c.kind, crc := c.crc, status := .ok, body := [], resend := false }] else []) }) ∧
        (∀ r more, front = [] → rest = .fence r :: more → (∀ r, more.head? ≠ some (.fence r)) →
          (s.window x.window).state = .enabled →
          ∃ t, exec (.accessAbort seq [q]) s = .next t ∧
            t = { s with link := t.link, arb := t.arb, xfer := { s.xfer with queue := more, postedFailures := 0 }
                         windows := s.windows.set x.window
                           { s.window x.window with useCount := (s.window x.window).useCount - 1 } } ∧
            t.link = { (s.accepted Kind.accessAbort seq [q]).link with
              replies := s.link.replies ++ answers ++ (if r.session = s.link.session then
                [{ seq := r.seq, kind := r.kind, crc := r.crc, status := .ok, resend := false
                   body := countBytes s.xfer.postedFailures }] else []) })))

/-- R47 and R58: at its expiry a retry delay makes a PAUSED head QUEUED again, and a resend delay sends the second
half of a locked pair under the grant it holds: on the backplane where the slot's lines are ready, and otherwise ABSENT
at its start, a result handed on as any other (R65; `TransactionStartAndEnd`, `LockedPair`). R25: the start of an
UNLOCK_WRITE marks the pair's page entry written where it names one that is VALID now; every other start of a second
half leaves the page map as it is. -/
def Obligations.DelaysEnd : Prop :=
  (∀ (s : State) (x : Transfer) (rest : List QEntry) (d : Nat), s.xfer.queue = .transfer x :: rest →
    x.state = .paused d →
    exec .retryDelayExpiry s =
      .next (settle { s with xfer := { s.xfer with queue := .transfer { x with state := .queued } :: rest } })) ∧
  (∀ (s : State) (p : Pair) (d : Nat), s.xfer.pair = some p → p.stage = .resend d →
    ∃ u : State, u = { s with pages := u.pages, xfer := { s.xfer with pair := some { p with stage := .second } } } ∧
      (∀ i, p.old = some p.compare → p.entry = some i → i < 2048 → (s.page i).valid = true →
        u.page i = { s.page i with written := true } ∧ ∀ j, j ≠ i → u.page j = s.page j) ∧
      (p.old ≠ some p.compare ∨ (∀ i, p.entry = some i → (s.page i).valid = false) → u.pages = s.pages) ∧
      (s.resetLine p.slot = false → s.present p.slot = true →
        ∃ t, exec .swapResendDelayExpiry s = .next t ∧
          t = { u with arb := t.arb, ctrl := { s.ctrl with tx := t.ctrl.tx } } ∧ t.arb.holder = s.arb.holder ∧
          (p.old = some p.compare → t.ctrl.tx = some
            { requester := .transfer, command := .unlockWrite, slot := p.slot, addr := p.addr, count := 4
              writeData := bytes32 p.new, phase := .request, timer := none }) ∧
          (p.old ≠ some p.compare → t.ctrl.tx = some
            { requester := .transfer, command := .unlock, slot := p.slot, addr := p.addr, count := 4, writeData := []
              phase := .wait, timer := some s.params.responseTimeout })) ∧
      (s.resetLine p.slot = true ∨ s.present p.slot = false →
        ∀ idle, idle = { u with ctrl := { s.ctrl with tx := none } } →
        exec .swapResendDelayExpiry s = .next (settle (pairResult { p with stage := .second } .absent []
          (if s.link.resetTaken = true then idle else superviseTakes p.slot .absent idle)))))

/-- R41: a segment runs to the next line boundary or the end of its transfer. R42, R43, R57: what the grant to TRANSFER
does with a QUEUED head. A translated segment to an ACTIVE or LAGGING slot with ready lines is on the backplane
afterwards, the head ISSUING and its page entry marked. R43, R50, R51: a segment that fails before its transaction
returns the grant unused and ends its transfer by R48 with PAGE_FAULT, READ_ONLY or SLOT_DOWN: a reply, or for a posted
write a POSTED_WRITE record, with the slot and module address where the segment was translated, and the count of
failures raised. -/
def Obligations.TransferGrant : Prop :=
  (∀ x : Transfer, x.completed < x.length →
      1 ≤ x.segmentLength ∧ x.completed + x.segmentLength ≤ x.length ∧
      (x.start.toNat + x.completed + x.segmentLength - 1) / 64 = (x.start.toNat + x.completed) / 64 ∧
      ((x.start.toNat + x.completed + x.segmentLength) % 64 = 0 ∨ x.completed + x.segmentLength = x.length)) ∧
  (∀ (s : State) (x : Transfer) (rest : List QEntry) (slot : SlotId) (m : ModAddr) (n : Option Nat),
      grantDue .transfer s = true → s.xfer.queue = .transfer x :: rest →
      Machine.translate s (s.window x.window) (x.start + BitVec.ofNat 32 x.completed) x.kind.isWrite = .to slot m n →
      (s.slot slot).state.inService = true → s.present slot = true →
      ∃ t, exec .transferGrant s = .next t ∧
        t = { s with arb := t.arb, pages := t.pages, xfer := t.xfer, ctrl := { s.ctrl with tx := t.ctrl.tx } } ∧
        t.arb.holder = some .transfer ∧ t.arb.choice = none ∧
        t.xfer.queue = .transfer { x with state := .issuing, issued := x.completed + x.segmentLength } :: rest ∧
        t.xfer.postedFailures = s.xfer.postedFailures ∧
        (∀ i, n = some i → i < 2048 →
          t.page i = { s.page i with referenced := true
                                     written := (s.page i).written || x.kind.marksWritten } ∧
          ∀ j, j ≠ i → t.page j = s.page j) ∧
        (n = none → t.pages = s.pages) ∧
        (x.kind = .read → t.xfer.pair = none ∧ t.ctrl.tx = some
          { requester := .transfer, command := .read, slot := slot, addr := m, count := x.segmentLength
            phase := .wait, timer := some s.params.responseTimeout }) ∧
        (∀ data, x.kind = .write data → t.xfer.pair = none ∧ t.ctrl.tx = some
          { requester := .transfer, command := .write, slot := slot, addr := m, count := x.segmentLength
            writeData := (data.drop x.completed).take x.segmentLength, phase := .request, timer := none }) ∧
        (∀ a b, x.kind = .swap a b →
          t.xfer.pair = some { slot := slot, addr := m, compare := a, new := b, entry := n, old := none
                               stage := .lockRead, retries := x.retries } ∧
          t.ctrl.tx = some
            { requester := .transfer, command := .lockRead, slot := slot, addr := m, count := x.segmentLength
              phase := .wait, timer := some s.params.responseTimeout })) ∧
  (∀ (s : State) (x : Transfer) (rest : List QEntry) (windows : Vector Window 8), grantDue .transfer s = true →
      s.xfer.queue = .transfer x :: rest → x.aborts = [] →
      (∀ r, rest.head? ≠ some (.fence r)) → (s.window x.window).state = .enabled →
      windows = s.windows.set x.window { s.window x.window with useCount := (s.window x.window).useCount - 1 } →
      ∀ (st : Status) (place : Option (SlotId × ModAddr)),
        (Machine.translate s (s.window x.window) (x.start + BitVec.ofNat 32 x.completed) x.kind.isWrite = .pageFault ∧
            st = .pageFault ∧ place = none ∨
          (∃ slot m, Machine.translate s (s.window x.window) (x.start + BitVec.ofNat 32 x.completed) x.kind.isWrite =
            .readOnly slot m ∧ st = .readOnly ∧ place = some (slot, m)) ∨
          ∃ slot m n, Machine.translate s (s.window x.window) (x.start + BitVec.ofNat 32 x.completed) x.kind.isWrite =
            .to slot m n ∧ (s.slot slot).state.inService = false ∧ st = .slotDown ∧ place = some (slot, m)) →
        (x.posted = false →
          ∃ t, exec .transferGrant s = .next t ∧ t.arb.holder = none ∧
            t = { queueReply x.req st (x.replyBody (.failed st place) {}) s with
                    arb := t.arb, xfer := { s.xfer with queue := rest }, windows := windows }) ∧
        (x.posted = true →
          ∃ t, exec .transferGrant s = .next t ∧ t.arb.holder = none ∧
            t = { s with arb := t.arb, windows := windows
                         xfer := { s.xfer with
                           queue := rest, postedFailures := min (s.xfer.postedFailures + 1) 65535 }
                         faults := (makeRecord
                           { kind := .postedWrite, code := .status st, seq := some x.req.seq
                             bridge := some (x.start + BitVec.ofNat 32 x.completed), completed := some x.completed
                             slot := place.map Prod.fst, moduleAddr := place.map Prod.snd } s).faults }))

/-- R44 to R46: what the result of a read or write segment does to its transfer. The supervisor's part and the return
of the grant stand in the state the result finds. R48 to R51: a transfer that leaves is answered, or, posted, makes a
POSTED_WRITE record when it has failed and nothing when it is complete. R49, R189: the body of the reply of a read or
write: bytes completed; the start on OK, the failing segment's address on a failure, and for an abort the segment at
bytes completed or the last one; and a read's data; a swap with no word read gives flags and old value 0. R54, R55: a
transfer whose abort mark is set ends ABORTED whatever the result, an ACKed segment counted, with an OK for each abort
of the mark after its own reply. -/
def Obligations.TransferResults : Prop :=
  (∀ (x : Transfer) (o : XferEnd) (info : SwapInfo) (a : Word),
      (o = .complete → a = x.start) →
      (∀ st place, o = .failed st place → a = x.start + BitVec.ofNat 32 x.completed) →
      (o = .aborted → x.completed ≠ x.length → a = x.start + BitVec.ofNat 32 x.completed) →
      (o = .aborted → x.completed = x.length → 1 ≤ x.length →
        a = x.start + BitVec.ofNat 32
          (max x.start.toNat ((x.start.toNat + x.length - 1) / 64 * 64) - x.start.toNat)) →
      (o = .aborted → 1 ≤ x.length) →
      (x.kind = .read → x.replyBody o info = countBytes x.completed ++ bytes32 a ++ x.readData) ∧
      (∀ data, x.kind = .write data → x.replyBody o info = countBytes x.completed ++ bytes32 a) ∧
      (∀ c n, x.kind = .swap c n → x.replyBody o {} = [0, 0, 0, 0, 0])) ∧
  (∀ (s : State) (x : Transfer) (rest : List QEntry) (place : SlotId × ModAddr) (data : List Byte)
      (windows : Vector Window 8), s.xfer.queue = .transfer x :: rest →
      windows = s.windows.set x.window { s.window x.window with useCount := (s.window x.window).useCount - 1 } →
      (x.aborts = [] → x.completed + x.segmentLength < x.length →
        segmentResult x place .ack data s = { s with xfer := { s.xfer with
          queue := .transfer { x with completed := x.completed + x.segmentLength, retries := 0, state := .queued
                                      readData := if x.kind = .read then x.readData ++ data else x.readData } ::
            rest } }) ∧
      (x.aborts = [] → x.retries < s.params.retryLimit →
        segmentResult x place .retry data s = { s with xfer := { s.xfer with
          queue := .transfer { x with retries := x.retries + 1, state := .paused s.params.retryDelay } :: rest } }) ∧
      ((∀ r, rest.head? ≠ some (.fence r)) → (s.window x.window).state = .enabled → x.aborts = [] →
        (x.completed + x.segmentLength = x.length →
          (x.posted = false → segmentResult x place .ack data s =
            { queueReply x.req .ok
                (({ x with completed := x.length, retries := 0
                           readData := if x.kind = .read then x.readData ++ data else x.readData } : Transfer).replyBody
                  .complete {}) s with
              xfer := { s.xfer with queue := rest }, windows := windows }) ∧
          (x.posted = true → segmentResult x place .ack data s =
            { s with xfer := { s.xfer with queue := rest }, windows := windows })) ∧
        (∀ r st, (r, st) ∈ [(Result.reject, Status.rejected), (.noResponse, .noResponse), (.parity, .parity),
            (.dataError, .parity), (.absent, .slotDown)] ∨
            (r = .retry ∧ st = .retryExhausted ∧ s.params.retryLimit ≤ x.retries) →
          (x.posted = false → segmentResult x place r data s =
            { queueReply x.req st (x.replyBody (.failed st (some place)) {}) s with
              xfer := { s.xfer with queue := rest }, windows := windows }) ∧
          (x.posted = true → segmentResult x place r data s =
            { s with
              windows := windows
              xfer := { s.xfer with queue := rest, postedFailures := min (s.xfer.postedFailures + 1) 65535 }
              faults := (makeRecord
                { kind := .postedWrite, code := .status st, seq := some x.req.seq
                  bridge := some (x.start + BitVec.ofNat 32 x.completed), completed := some x.completed
                  slot := some place.1, moduleAddr := some place.2 } s).faults }))) ∧
      ((∀ r, rest.head? ≠ some (.fence r)) → (s.window x.window).state = .enabled → x.aborts ≠ [] →
        ∀ (r : Result) (y : Transfer),
          (r = .ack → y = { x with completed := x.completed + x.segmentLength, retries := 0
                                   readData := if x.kind = .read then x.readData ++ data else x.readData }) →
          (r ≠ .ack → y = x) →
          segmentResult x place r data s = { s with
            windows := windows
            xfer := { s.xfer with queue := rest }
            link := { s.link with replies := s.link.replies ++
              (if x.posted = false ∧ x.req.session = s.link.session then
                [{ seq := x.req.seq, kind := x.req.kind, crc := x.req.crc, status := .aborted, resend := false
                   body := y.replyBody .aborted {} }] else []) ++
              (x.aborts.filter fun a => a.session = s.link.session).map fun a =>
                { seq := a.seq, kind := a.kind, crc := a.crc, status := .ok, body := countBytes y.completed
                  resend := false } } }))

/-- R57 to R59, R61: the results of a locked pair. An ACKed LOCK_READ sends the second half at once, UNLOCK_WRITE of
the new word where the word read is the compare value and UNLOCK otherwise, or, where the slot's lines are not ready,
ends it ABSENT at its start (R65); R25: an UNLOCK_WRITE marks the pair's page entry written where it names one that is
VALID now, and every other second half leaves the page map as it is. A RETRY of the LOCK_READ pauses the swap and
returns the grant; any other result ends it with lock-state-unknown clear. The second half's ACK ends the swap OK; its
RETRY within the limit is sent again after the delay under the same grant; any other result ends the swap with
lock-state-unknown set, but for ABSENT. A swap whose abort mark is set ends ABORTED with what the pair found (R54,
R55). With a bridge reset taken the pair runs on and its result is discarded. The swapped indication of an unlock
write that failed is the model's reading (log 18). -/
def Obligations.LockedPair : Prop :=
  (∀ (s : State) (p : Pair) (data : List Byte) (word : Word), p.stage = .lockRead →
      word = le32 (byteAt data 0) (byteAt data 1) (byteAt data 2) (byteAt data 3) →
      ∃ u : State, u = { s with
            pages := u.pages
            xfer := { s.xfer with pair := some { p with old := some word, stage := .second } } } ∧
        (∀ i, word = p.compare → p.entry = some i → i < 2048 → (s.page i).valid = true →
          u.page i = { s.page i with written := true } ∧ ∀ j, j ≠ i → u.page j = s.page j) ∧
        (word ≠ p.compare ∨ (∀ i, p.entry = some i → (s.page i).valid = false) → u.pages = s.pages) ∧
        (s.resetLine p.slot = false → s.present p.slot = true →
          ∃ tx, pairResult p .ack data s = { u with ctrl := { s.ctrl with tx := some tx } } ∧
            (word = p.compare → tx =
              { requester := .transfer, command := .unlockWrite, slot := p.slot, addr := p.addr, count := 4
                writeData := bytes32 p.new, phase := .request, timer := none }) ∧
            (word ≠ p.compare → tx =
              { requester := .transfer, command := .unlock, slot := p.slot, addr := p.addr, count := 4, writeData := []
                phase := .wait, timer := some s.params.responseTimeout })) ∧
        (s.resetLine p.slot = true ∨ s.present p.slot = false →
          ∀ idle, idle = { u with ctrl := { s.ctrl with tx := none } } →
          pairResult p .ack data s = pairResult { p with old := some word, stage := .second } .absent []
            (if s.link.resetTaken = true then idle else superviseTakes p.slot .absent idle))) ∧
  (∀ (s : State) (p : Pair) (x : Transfer) (rest : List QEntry) (data : List Byte) (windows : Vector Window 8),
      s.link.resetTaken = false → s.xfer.queue = .transfer x :: rest →
      windows = s.windows.set x.window { s.window x.window with useCount := (s.window x.window).useCount - 1 } →
      (p.stage = .lockRead → x.aborts = [] → x.retries < s.params.retryLimit →
        pairResult p .retry data s = { s with
          arb := { s.arb with holder := none }
          xfer := { s.xfer with pair := none, queue := .transfer { x with
            retries := x.retries + 1, state := .paused s.params.retryDelay } :: rest } }) ∧
      (p.stage = .second → p.retries < s.params.retryLimit →
        pairResult p .retry data s = { s with xfer := { s.xfer with
          queue := .transfer { x with retries := p.retries + 1 } :: rest
          pair := some { p with retries := p.retries + 1, stage := .resend s.params.retryDelay } } }) ∧
      ((∀ r, rest.head? ≠ some (.fence r)) → (s.window x.window).state = .enabled → x.posted = false →
        (∃ a b, x.kind = .swap a b) →
        ∀ (r : Result) (st : Status) (old : Option Word) (unknown : Bool) (body : List Byte),
          (p.stage = .lockRead ∧ p.old = none ∧ old = none ∧ unknown = false ∧
              ((r, st) ∈ [(Result.reject, Status.rejected), (.noResponse, .noResponse), (.parity, .parity),
                (.dataError, .parity), (.absent, .slotDown)] ∨
              r = .retry ∧ st = .retryExhausted ∧ (x.aborts ≠ [] ∨ s.params.retryLimit ≤ x.retries)) ∨
            p.stage = .second ∧ old = p.old ∧
              ((r, st, unknown) ∈ [(Result.ack, Status.ok, false), (.reject, .rejected, true),
                (.noResponse, .noResponse, true), (.parity, .parity, true), (.dataError, .parity, true),
                (.absent, .slotDown, false)] ∨
              r = .retry ∧ st = .retryExhausted ∧ unknown = true ∧ s.params.retryLimit ≤ p.retries)) →
          body = (flagBit old.isSome 0 ||| flagBit (old = some p.compare) 1 ||| flagBit unknown 2) ::
            bytes32 (old.getD 0) →
          (x.aborts = [] → pairResult p r data s = { queueReply x.req st body s with
            xfer := { s.xfer with queue := rest, pair := none }
            arb := { s.arb with holder := none }, windows := windows }) ∧
          (x.aborts ≠ [] → pairResult p r data s = { s with
            xfer := { s.xfer with queue := rest, pair := none }
            arb := { s.arb with holder := none }
            windows := windows
            link := { s.link with replies := s.link.replies ++
              (if x.req.session = s.link.session then
                [{ seq := x.req.seq, kind := x.req.kind, crc := x.req.crc, status := .aborted, body := body
                   resend := false }] else []) ++
              (x.aborts.filter fun a => a.session = s.link.session).map fun a =>
                { seq := a.seq, kind := a.kind, crc := a.crc, status := .ok, resend := false
                  body := countBytes (if p.stage = .second ∧ r = .ack then x.length else x.completed) } } }))) ∧
  (∀ (s : State) (p : Pair) (data : List Byte), s.link.resetTaken = true → s.xfer.queue = [] →
      (p.stage = .second → p.retries < s.params.retryLimit →
        pairResult p .retry data s = { s with xfer := { s.xfer with
          pair := some { p with retries := p.retries + 1, stage := .resend s.params.retryDelay } } }) ∧
      (∀ r, p.stage = .lockRead ∧ r ≠ .ack ∨
          p.stage = .second ∧ (r ≠ .retry ∨ s.params.retryLimit ≤ p.retries) →
        pairResult p r data s = { s with xfer := { s.xfer with pair := none } }))

/-! ### The backplane and its arbiter (chapter 4) -/

/-- R42, R73, R81, R91, R115, R130: who has a request waiting: HOLD while PENDING, SUPERVISE while its work list is not
empty, TRANSFER while its head is QUEUED, INBOUND while a service or an eligible slot (`AttentionAndBackOff`) is there,
the holder of the grant never, and nobody while a bridge reset is taken. R74 to R76: at a free backplane with no choice
standing, the arbiter chooses by the order of R75 among the requests that wait; a choice stands while its request
waits; and the grant takes the request out of the set, makes its requester the holder and moves the inbound-turn
counter as R76 says. That the choice is made at once and stands until its grant step is the model's choice (log 4). -/
def Obligations.ArbiterChoice : Prop :=
  (∀ s : State,
    (s.link.resetTaken = true → wanted s = {}) ∧
    (s.link.resetTaken = false →
      ((wanted s).hold = true ↔ s.hold.state = .pending ∧ s.arb.holder ≠ some .hold) ∧
      ((wanted s).supervise = true ↔ s.sup.work ≠ [] ∧ s.arb.holder ≠ some .supervise) ∧
      ((wanted s).transfer = true ↔
        (∃ x rest, s.xfer.queue = .transfer x :: rest ∧ x.state = .queued) ∧ s.arb.holder ≠ some .transfer) ∧
      ((wanted s).inbound = true ↔
        (s.inb.service ≠ none ∨ ∃ i, eligible s i = true) ∧ s.arb.holder ≠ some .inbound))) ∧
  (∀ s : State, s.arb.holder = none → s.arb.choice = none →
    (settle s).arb.waiting = wanted s ∧
    ((wanted s).hold = true → (settle s).arb.choice = some .hold) ∧
    ((wanted s).hold = false → (wanted s).supervise = true → (settle s).arb.choice = some .supervise) ∧
    ((wanted s).hold = false → (wanted s).supervise = false →
      ((wanted s).inbound = true → s.params.inboundTurn ≤ (settle s).arb.turn →
        (settle s).arb.choice = some .inbound) ∧
      ((wanted s).transfer = true → ((wanted s).inbound = true → (settle s).arb.turn < s.params.inboundTurn) →
        (settle s).arb.choice = some .transfer) ∧
      ((wanted s).transfer = false → (wanted s).inbound = true → (settle s).arb.choice = some .inbound) ∧
      ((wanted s).transfer = false → (wanted s).inbound = false → (settle s).arb.choice = none))) ∧
  (∀ s : State, ∃ a, settle s = { s with arb := a } ∧ a.holder = s.arb.holder ∧
    (s.arb.holder ≠ none → a.choice = none) ∧
    (∀ r, s.arb.holder = none → s.arb.choice = some r → (wanted s).has r = true → a.choice = some r) ∧
    (s.arb.waiting.inbound = true → (wanted s).inbound = false → s.arb.holder ≠ some .inbound → a.turn = 0) ∧
    (s.arb.waiting.inbound = false ∨ (wanted s).inbound = true → a.turn = s.arb.turn)) ∧
  (∀ (s : State) (r : Requester), ∃ a, takeGrant r s = { s with arb := a } ∧ a.holder = some r ∧ a.choice = none ∧
    a.waiting.has r = false ∧ (∀ q, q ≠ r → a.waiting.has q = s.arb.waiting.has q) ∧
    (r = .transfer → s.arb.waiting.inbound = true → a.turn = s.arb.turn + 1) ∧
    (r = .transfer → s.arb.waiting.inbound = false → a.turn = s.arb.turn) ∧
    (r = .inbound → a.turn = 0) ∧
    (r = .hold ∨ r = .supervise → a.turn = s.arb.turn))

/-- R65: a transaction is driven only to a slot whose reset line is released and whose presence is active; otherwise
it ends ABSENT at once and nothing is driven. R71, R72, R81: the end of a transaction leaves the controller IDLE and
the module's lock as R72 says; the result goes to the slot supervisor (but for a HOLD_CYCLE) and then to the
requester; once a bridge reset is taken it goes to nobody but a locked pair, which runs on (R61; `LockedPair`). -/
def Obligations.TransactionStartAndEnd : Prop :=
  (∀ (t : Tx) (s : State),
      (s.resetLine t.slot = false → s.present t.slot = true → t.command.carriesData = true →
        beginTx t s = { s with ctrl := { s.ctrl with tx := some { t with phase := .request, timer := none } } }) ∧
      (s.resetLine t.slot = false → s.present t.slot = true → t.command.carriesData = false →
        beginTx t s = { s with ctrl := { s.ctrl with
          tx := some { t with phase := .wait, timer := some s.params.responseTimeout } } }) ∧
      (s.resetLine t.slot = true ∨ s.present t.slot = false → beginTx t s = finishTx t .absent [] s)) ∧
  (∀ (t : Tx) (r : Result) (data : List Byte) (s idle : State),
      idle = { s with ctrl := { s.ctrl with tx := none }
                      modules := s.modules.set t.slot (lockAfter t r s.modules[t.slot]) } →
      (s.link.resetTaken = false →
        (t.requester = .hold → finishTx t r data s = cycleResult r data idle) ∧
        (t.requester = .supervise → finishTx t r data s =
          returnGrant (superviseResult t.slot r data (superviseTakes t.slot r idle))) ∧
        (t.requester = .inbound → finishTx t r data s =
          returnGrant (inboundResult r data (superviseTakes t.slot r idle))) ∧
        (t.requester = .transfer → ∀ u, u = superviseTakes t.slot r idle →
          (∀ p, u.xfer.pair = some p → finishTx t r data s = pairResult p r data u) ∧
          (∀ x rest, u.xfer.pair = none → u.xfer.queue = .transfer x :: rest →
            finishTx t r data s = segmentResult x (t.slot, t.addr) r data (returnGrant u)))) ∧
      (s.link.resetTaken = true →
        (t.requester = .supervise ∨ t.requester = .inbound → finishTx t r data s = idle) ∧
        (t.requester = .hold → finishTx t r data s = { idle with hold := { idle.hold with cycle := none } }) ∧
        (t.requester = .transfer →
          (s.xfer.pair = none → finishTx t r data s = idle) ∧
          ∀ p, s.xfer.pair = some p → finishTx t r data s = pairResult p r data idle)) ∧
      (t.command = .lockRead → lockAfter t .ack .unlocked = .locked t.addr) ∧
      (t.command = .unlockWrite ∨ t.command = .unlock →
        lockAfter t .ack (.locked t.addr) = .unlocked ∧
        (∀ q ∈ [Result.retry, .reject, .dataError, .absent], lockAfter t q (.locked t.addr) = .locked t.addr)) ∧
      (∀ l, t.command = .read ∨ t.command = .write → lockAfter t r l = l))

/-- R66: the number of data words, the lanes that are enabled, and what the controller drives on each lane. R66 to
R68: REQUEST_DRIVEN takes a transaction in REQUEST to WAIT with the response timer started; an ACK that opens a
read's DATA phase starts it again; the other codes end the transaction with their result, a code that fails its own
parity or names nothing PARITY, with the read check REFUSE for a read (R69). That outside REQUEST no word is driven and
outside WAIT no code arrives, so that such a command changes nothing, is the model's choice (log 3). -/
def Obligations.RequestAndResponse : Prop :=
  (∀ t : Tx, 1 ≤ t.count →
      (t.wordCount = (t.addr.toNat + t.count - 1) / 4 - t.addr.toNat / 4 + 1) ∧
      (∀ i k, k < 4 → (t.laneEnabled i k = true ↔
        t.addr.toNat ≤ t.addr.toNat / 4 * 4 + 4 * i + k ∧ t.addr.toNat / 4 * 4 + 4 * i + k < t.addr.toNat + t.count)) ∧
      (∀ i k, k < 4 → ∃ b, (t.drivenWord i).lanes[k]? = some b ∧
        (t.drivenWord i).enables[k]? = some (t.laneEnabled i k) ∧
        (t.drivenWord i).parity[k]? = some (!oddOnes b) ∧
        (t.laneEnabled i k = false → b = 0) ∧
        (t.laneEnabled i k = true →
          b = t.writeData.getD (t.addr.toNat / 4 * 4 + 4 * i + k - t.addr.toNat) 0)) ∧
      (t.command = .write ∨ t.command = .unlockWrite → t.drivenWords = (List.range t.wordCount).map t.drivenWord) ∧
      (t.command = .read ∨ t.command = .lockRead ∨ t.command = .unlock → t.drivenWords = [])) ∧
  (∀ (s : State) (t : Tx), s.ctrl.tx = some t →
      (t.phase = .request → exec .requestDriven s = .next { s with ctrl := { s.ctrl with
        tx := some { t with phase := .wait, timer := some s.params.responseTimeout } } }) ∧
      (t.phase ≠ .request → exec .requestDriven s = .next s) ∧
      (t.phase = .wait →
        (t.command.returnsData = true → exec (.responseCodeArrives .ack true) s =
          .next (settle { s with ctrl := { s.ctrl with
            tx := some { t with phase := .data, timer := some s.params.responseTimeout } } })) ∧
        (t.command.returnsData = false →
          exec (.responseCodeArrives .ack true) s = .next (settle (finishTx t .ack [] s))) ∧
        (∀ code r, (code, r) ∈ [(ResponseCode.retry, Result.retry), (.reject, .reject), (.dataError, .dataError)] →
          exec (.responseCodeArrives code true) s = .next (settle (finishTx t r [] s))) ∧
        (∀ code good, good = false ∨ code = .unnamed →
          exec (.responseCodeArrives code good) s = .next (settle (finishTx t .parity [] { s with ctrl := { s.ctrl with
            readCheck := if t.command.returnsData = true then some .refuse else s.ctrl.readCheck } })))) ∧
      (t.phase ≠ .wait → ∀ code good, exec (.responseCodeArrives code good) s = .next s))

/-- R67, R69: each read data word is taken whole, its enabled bytes kept in address order and every enabled lane
checked for odd parity; after the last word the read check is driven and the transaction ends ACK with the bytes, or
PARITY with none. R68: the expiry of a running response timer ends the transaction NO_RESPONSE with no read data; in
DATA the read check is REFUSE. With no timer running nothing expires (log 3). -/
def Obligations.ReadDataAndTimeout : Prop :=
  (∀ (s : State) (t : Tx) (word : Word) (parity : BitVec 4), s.ctrl.tx = some t → t.phase = .data →
      ∀ (new : List Byte) (bad : Bool),
        new = ([0, 1, 2, 3].filter fun k => t.laneEnabled t.words k).map (fun k => word.extractLsb' (8 * k) 8) →
        (bad = true ↔ t.mismatch = true ∨ ∃ k, k < 4 ∧ t.laneEnabled t.words k = true ∧
          (oddOnes (word.extractLsb' (8 * k) 8) ^^ parity.getLsbD k) = false) →
        (t.words + 1 < t.wordCount →
          exec (.readDataWordArrives word parity) s = .next (settle { s with ctrl := { s.ctrl with
            tx := some { t with readData := t.readData ++ new, mismatch := bad, words := t.words + 1
                                timer := some s.params.responseTimeout } } })) ∧
        (t.wordCount ≤ t.words + 1 →
          ∃ u : Tx, u.requester = t.requester ∧ u.command = t.command ∧ u.slot = t.slot ∧ u.addr = t.addr ∧
            u.count = t.count ∧
            (bad = false → exec (.readDataWordArrives word parity) s =
              .next (settle (finishTx u .ack (t.readData ++ new)
                { s with ctrl := { s.ctrl with readCheck := some .accept } }))) ∧
            (bad = true → exec (.readDataWordArrives word parity) s =
              .next (settle (finishTx u .parity [] { s with ctrl := { s.ctrl with readCheck := some .refuse } }))))) ∧
  ((∀ (s : State) (t : Tx), s.ctrl.tx = some t → t.timer.isSome = true →
      exec .responseTimerExpiry s = .next (settle (finishTx t .noResponse [] { s with ctrl := { s.ctrl with
        readCheck := if t.phase = .data then some .refuse else s.ctrl.readCheck } }))) ∧
    (∀ s : State, (∀ t, s.ctrl.tx = some t → t.timer = none) → exec .responseTimerExpiry s = .next s))

/-! ### Slot supervision (chapter 5) -/

/-- R107 and R108: SLOT_GET returns the record, in the layout of the reply table of chapter 10, and changes nothing;
SLOT_ON samples the presence line of an OFF slot, which enters SETTLING with its timer or EMPTY, with last cause ON,
its notice pending and OK queued, and refuses any other slot WRONG_STATE; both refuse a payload that does not fit
MALFORMED and a slot number over 15 RANGE. -/
def Obligations.SlotGetAndOn : Prop :=
  ∀ (seq : Byte) (payload : List Byte) (s : State),
    (Accepts Kind.slotGet seq payload s →
      (payload.length ≠ 1 →
        exec (.slotGet seq payload) s = .next (s.answered Kind.slotGet seq payload .malformed [])) ∧
      (∀ b : Byte, payload = [b] →
        (15 < b.toNat → exec (.slotGet seq payload) s = .next (s.answered Kind.slotGet seq payload .range [])) ∧
        (∀ i : SlotId, i.val = b.toNat →
          exec (.slotGet seq payload) s = .next (s.answered Kind.slotGet seq payload .ok
            ([(s.slot i).state.code, (s.slot i).epoch, (s.slot i).lastCause.code, causeByte (s.slot i).faultCause,
              byteOf (s.slot i).lag, byteOf (s.slot i).skip, byteOf (s.slot i).silence, byteOf (s.slot i).attempts,
              causeByte (s.slot i).attemptCause] ++ bytes32 (s.slot i).heartbeat ++
             [boolByte (s.present i), boolByte (s.slot i).enrollReply.isSome, boolByte (s.slot i).descriptor.isSome] ++
             (match (s.slot i).descriptor with
              | some d => [d.cls, d.revision, flagBit d.attention 0 ||| flagBit d.swap 1, byteOf d.spaceLog2] ++
                  bytes24 d.heartbeatAddr ++ bytes24 d.postAddr ++ countBytes d.maxPost
              | none => List.replicate 12 0)))))) ∧
    (Accepts Kind.slotOn seq payload s →
      (payload.length ≠ 1 →
        exec (.slotOn seq payload) s = .next (s.answered Kind.slotOn seq payload .malformed [])) ∧
      (∀ b : Byte, payload = [b] →
        (15 < b.toNat → exec (.slotOn seq payload) s = .next (s.answered Kind.slotOn seq payload .range [])) ∧
        (∀ i : SlotId, i.val = b.toNat →
          ((s.slot i).state ≠ .off →
            exec (.slotOn seq payload) s = .next (s.answered Kind.slotOn seq payload .wrongState [])) ∧
          ((s.slot i).state = .off →
            exec (.slotOn seq payload) s = .next { s.answered Kind.slotOn seq payload .ok [] with
              sup := { s.sup with
              slots := s.sup.slots.set i
                (if s.present i = true then
                  { s.slot i with state := .settling, lastCause := .on
                                  timer := some { kind := .settle, ms := s.params.settleTime } }
                 else { s.slot i with state := .empty, lastCause := .on, timer := none }) }
              notices := { s.notices with slotPending :=
                if s.notices.slotEnabled = true then s.notices.slotPending.set i true
                else s.notices.slotPending } }))))

/-- R96: SLOT_ENROLL takes a PRESENT slot to ENROLLING, its reply deferred and its first attempt begun (R92). A slot
that leaves ENROLLING by failure, removal, SLOT_RESET or SLOT_OFF answers the owed reply SLOT_DOWN with its state and
fault cause, and owes none any more. -/
def Obligations.SlotEnroll : Prop :=
  (∀ (seq : Byte) (payload : List Byte) (s : State), Accepts Kind.slotEnroll seq payload s →
    (payload.length ≠ 1 →
      exec (.slotEnroll seq payload) s = .next (s.answered Kind.slotEnroll seq payload .malformed [])) ∧
    (∀ b : Byte, payload = [b] →
      (15 < b.toNat → exec (.slotEnroll seq payload) s = .next (s.answered Kind.slotEnroll seq payload .range [])) ∧
      (∀ i : SlotId, i.val = b.toNat →
        ((s.slot i).state ≠ .present →
          exec (.slotEnroll seq payload) s = .next (s.answered Kind.slotEnroll seq payload .wrongState [])) ∧
        ((s.slot i).state = .present →
          exec (.slotEnroll seq payload) s = .next (settle { s.accepted Kind.slotEnroll seq payload with
            sup := { slots := s.sup.slots.set i { s.slot i with
                       state := .enrolling, attempts := 1, attemptCause := none, step := .descriptorRead, timer := none
                       enrollReply := some (reqId Kind.slotEnroll seq payload s) }
                     work := s.sup.work ++ [{ slot := i, read := .descriptor }] }
            notices := { s.notices with slotPending :=
              if s.notices.slotEnabled = true then s.notices.slotPending.set i true
              else s.notices.slotPending } }))))) ∧
  (∀ (s : State) (i : SlotId), enrollDown i s = { s with
      sup := { s.sup with slots := s.sup.slots.set i { s.slot i with enrollReply := none } }
      link := { s.link with replies := s.link.replies ++
        (match (s.slot i).enrollReply with
         | some r => if r.session = s.link.session then
             [{ seq := r.seq, kind := r.kind, crc := r.crc, status := .slotDown, resend := false
                body := [(s.slot i).state.code,
                         match (s.slot i).faultCause with
                         | some c => c.code
                         | none => 0xFF] }] else []
         | none => []) } })

/-- R104, R106: SLOT_RESET and SLOT_OFF that are taken. The record keeps its epoch, descriptor copy and last
heartbeat; its counts, causes, timer and work items are gone; the slot is RESETTING with its pulse timer, or OFF; its
module holds no lock; an owed SLOT_ENROLL is answered SLOT_DOWN (R96) and then the request OK. R70, R59: a transaction
to the slot on the backplane ends ABSENT at that moment, and a locked pair that waits to send its second half to it
again ends SLOT_DOWN. That their requester's reply stands ahead of the SLOT_DOWN and of the request's own OK is the
model's choice (log 16). R104, R106: what SLOT_RESET and SLOT_OFF refuse, and a SLOT_OFF of an OFF slot. -/
def Obligations.SlotResetAndOff : Prop :=
  (∀ (seq b : Byte) (s : State) (i : SlotId) (kind : Byte) (c : Instr) (state : SlotState) (cause : LastCause)
      (timer : Option SlotTimer) (taken : State),
      (kind = Kind.slotReset ∧ c = .slotReset seq [b] ∧ state = .resetting ∧ cause = .reset ∧
          timer = some { kind := .pulse, ms := s.params.slotResetPulse } ∧ (s.slot i).state ≠ .empty ∨
        kind = Kind.slotOff ∧ c = .slotOff seq [b] ∧ state = .off ∧ cause = .off ∧ timer = none) →
      Accepts kind seq [b] s → i.val = b.toNat → (s.slot i).state ≠ .off →
      taken = { s.accepted kind seq [b] with
        modules := s.modules.set i .unlocked
        sup := { slots := s.sup.slots.set i
                   { s.slot i with state := state, lastCause := cause, timer := timer, step := .none, held := none, lag := 0
                                   skip := 0, silence := 0, attempts := 0, attemptCause := none, faultCause := none }
                 work := s.sup.work.filter fun w => w.slot ≠ i }
        notices := { s.notices with slotPending :=
          if s.notices.slotEnabled = true then s.notices.slotPending.set i true else s.notices.slotPending }
        inb := if (s.slot i).state.inService = true then
          { s.inb with backOff := s.inb.backOff.set i none, roomWait := s.inb.roomWait.set i none } else s.inb } →
      ((∀ t, s.ctrl.tx = some t → t.slot ≠ i) → (∀ p, s.xfer.pair = some p → p.slot ≠ i) →
        ∃ u, exec c s = .next u ∧
          u = { taken with link := u.link, sup := u.sup, arb := u.arb } ∧
          u.sup = { taken.sup with slots := taken.sup.slots.set i { taken.slot i with enrollReply := none } } ∧
          u.link = { taken.link with
            replies := s.link.replies ++
              (match (s.slot i).enrollReply with
               | some r => if r.session = s.link.session then
                   [{ seq := r.seq, kind := r.kind, crc := r.crc, status := .slotDown, body := [state.code, 0xFF]
                      resend := false }] else []
               | none => []) ++
              [{ seq := seq, kind := kind, crc := (requestFrame kind seq [b]).crc, status := .ok, body := []
                 resend := false }] }) ∧
      (∀ t, s.ctrl.tx = some t → t.slot = i →
        exec c s = .next (settle (queueReply (reqId kind seq [b] s) .ok []
          (enrollDown i (finishTx t .absent [] taken))))) ∧
      (∀ p, s.ctrl.tx = none → s.xfer.pair = some p → p.slot = i →
        exec c s = .next (settle (queueReply (reqId kind seq [b] s) .ok []
          (enrollDown i (pairResult { p with stage := .second } .absent [] taken)))))) ∧
  (∀ (seq : Byte) (payload : List Byte) (s : State),
      (Accepts Kind.slotReset seq payload s →
        (payload.length ≠ 1 →
          exec (.slotReset seq payload) s = .next (s.answered Kind.slotReset seq payload .malformed [])) ∧
        (∀ b : Byte, payload = [b] →
          (15 < b.toNat → exec (.slotReset seq payload) s = .next (s.answered Kind.slotReset seq payload .range [])) ∧
          (∀ i : SlotId, i.val = b.toNat → (s.slot i).state = .off ∨ (s.slot i).state = .empty →
            exec (.slotReset seq payload) s = .next (s.answered Kind.slotReset seq payload .wrongState [])))) ∧
      (Accepts Kind.slotOff seq payload s →
        (payload.length ≠ 1 →
          exec (.slotOff seq payload) s = .next (s.answered Kind.slotOff seq payload .malformed [])) ∧
        (∀ b : Byte, payload = [b] →
          (15 < b.toNat → exec (.slotOff seq payload) s = .next (s.answered Kind.slotOff seq payload .range [])) ∧
          (∀ i : SlotId, i.val = b.toNat → (s.slot i).state = .off →
            exec (.slotOff seq payload) s = .next (s.answered Kind.slotOff seq payload .ok [])))))

/-- R88, R92, R95, R105: what the settle, attempt gap and pulse timers do at their expiry in the state they run in;
a timer that does not run expires nowhere (log 3). R97: at the expiry of a check timer the timer starts again; the
check is skipped while HELD, merged with one that is pending, and otherwise joins the work list. R99, R100: a skip
under the allowance is counted; at or over it the skip count returns to 0 and the skip is a failed check, which makes
an ACTIVE slot LAGGING, raises a LAGGING slot's lag count, or at LAG_LIMIT faults the slot (`Enrollment`). -/
def Obligations.SlotTimers : Prop :=
  (∀ (s : State) (i : SlotId) (ms : Nat) (pending : Vector Bool 16),
      pending = (if s.notices.slotEnabled = true then s.notices.slotPending.set i true else s.notices.slotPending) →
      ((s.slot i).state = .settling → (s.slot i).timer = some { kind := .settle, ms := ms } →
        (s.params.autoEnroll = true →
          exec (.settleTimerExpiry i) s = .next (settle { s with
            sup := { slots := s.sup.slots.set i { s.slot i with
                       state := .enrolling, lastCause := .settled, attempts := 1, attemptCause := none
                       step := .descriptorRead, timer := none }
                     work := s.sup.work ++ [{ slot := i, read := .descriptor }] }
            notices := { s.notices with slotPending := pending } })) ∧
        (s.params.autoEnroll = false →
          exec (.settleTimerExpiry i) s = .next (settle { s with
            sup := { s.sup with
            slots := s.sup.slots.set i
              { s.slot i with state := .present, lastCause := .settled, timer := none } }
            notices := { s.notices with slotPending := pending } }))) ∧
      ((s.slot i).state = .enrolling → (s.slot i).timer = some { kind := .gap, ms := ms } →
        exec (.attemptGapExpiry i) s = .next (settle { s with
          sup := { slots := s.sup.slots.set i { s.slot i with
                     attempts := (s.slot i).attempts + 1, step := .descriptorRead, timer := none }
                   work := s.sup.work ++ [{ slot := i, read := .descriptor }] } })) ∧
      ((s.slot i).state = .resetting → (s.slot i).timer = some { kind := .pulse, ms := ms } →
        exec (.pulseTimerExpiry i) s = .next { s with
          sup := { s.sup with
          slots := s.sup.slots.set i
            (if s.present i = true then
              { s.slot i with state := .settling, timer := some { kind := .settle, ms := s.params.settleTime } }
             else { s.slot i with state := .empty, timer := none }) }
          notices := { s.notices with slotPending := pending } }) ∧
      ((s.slot i).timer = none →
        exec (.settleTimerExpiry i) s = .next s ∧ exec (.attemptGapExpiry i) s = .next s ∧
          exec (.checkTimerExpiry i) s = .next s ∧ exec (.pulseTimerExpiry i) s = .next s)) ∧
  (∀ (s : State) (i : SlotId) (ms : Nat) (again : Option SlotTimer) (running : State),
      (s.slot i).state.inService = true → (s.slot i).timer = some { kind := .check, ms := ms } →
      again = (if s.params.checkInterval = 0 then none else some { kind := .check, ms := s.params.checkInterval }) →
      running = { s with sup := { s.sup with slots := s.sup.slots.set i { s.slot i with timer := again } } } →
      (s.hold.state = .held → exec (.checkTimerExpiry i) s = .next (settle (skipCheck i running))) ∧
      (s.hold.state ≠ .held →
        ({ slot := i, read := .check } ∈ s.sup.work ∨ (∃ t, s.ctrl.tx = some t ∧ t.requester = .supervise ∧ t.slot = i ∧
            (s.slot i).step = .none) →
          exec (.checkTimerExpiry i) s = .next (settle running)) ∧
        ({ slot := i, read := .check } ∉ s.sup.work →
            (∀ t, s.ctrl.tx = some t → ¬(t.requester = .supervise ∧ t.slot = i ∧ (s.slot i).step = .none)) →
          exec (.checkTimerExpiry i) s = .next (settle { running with
            sup := { running.sup with work := s.sup.work ++ [{ slot := i, read := .check }] } })))) ∧
  (∀ (s : State) (i : SlotId),
      ((s.slot i).skip < s.params.skipAllowance → skipCheck i s = { s with sup := { s.sup with
        slots := s.sup.slots.set i { s.slot i with skip := (s.slot i).skip + 1 } } }) ∧
      (s.params.skipAllowance ≤ (s.slot i).skip →
        ((s.slot i).state = .active → 1 < s.params.lagLimit → skipCheck i s = { s with
          sup := { s.sup with
            slots := s.sup.slots.set i { s.slot i with state := .lagging, lastCause := .lag, lag := 1, skip := 0 } }
          notices := { s.notices with slotPending :=
            if s.notices.slotEnabled = true then s.notices.slotPending.set i true else s.notices.slotPending } }) ∧
        ((s.slot i).state = .active → s.params.lagLimit ≤ 1 →
          skipCheck i s = enterFaulted i .lagging { s with sup := { s.sup with
            slots := s.sup.slots.set i { s.slot i with lag := 1, skip := 0 } } }) ∧
        ((s.slot i).state = .lagging → (s.slot i).lag + 1 < s.params.lagLimit → skipCheck i s = { s with
          sup := { s.sup with slots := s.sup.slots.set i { s.slot i with lag := (s.slot i).lag + 1, skip := 0 } } }) ∧
        ((s.slot i).state = .lagging → s.params.lagLimit ≤ (s.slot i).lag + 1 →
          skipCheck i s = enterFaulted i .lagging { s with sup := { s.sup with
            slots := s.sup.slots.set i { s.slot i with lag := (s.slot i).lag + 1, skip := 0 } } })))

/-- R87 to R89: presence lines. An EMPTY slot whose line becomes active is INSERTED into SETTLING; a slot that loses
its line is EMPTY, REMOVED, with an owed SLOT_ENROLL answered SLOT_DOWN (R96). A line already at the level changes
nothing, the model's choice (log 3). R70, R90, R59: a transaction to the slot on the backplane ends ABSENT with the slot
already EMPTY, and a locked pair that waits to send its second half to it again ends SLOT_DOWN. That the removal's
SLOT_DOWN stands ahead of the reply of a HOLD_CYCLE that ends so is the model's choice (log 20). -/
def Obligations.PresenceLines : Prop :=
  ∀ (s : State) (i : SlotId) (pending : Vector Bool 16),
    pending = (if s.notices.slotEnabled = true then s.notices.slotPending.set i true else s.notices.slotPending) →
    (s.present i = true → exec (.presenceActive i) s = .next s) ∧
    (s.present i = false →
      ((s.slot i).state = .empty →
        exec (.presenceActive i) s = .next { s with
          pins := { s.pins with presence := s.pins.presence.set i true }
          sup := { s.sup with
          slots := s.sup.slots.set i
            { s.slot i with state := .settling, lastCause := .inserted
                            timer := some { kind := .settle, ms := s.params.settleTime } } }
          notices := { s.notices with slotPending := pending } }) ∧
      ((s.slot i).state ≠ .empty →
        exec (.presenceActive i) s =
          .next { s with pins := { s.pins with presence := s.pins.presence.set i true } })) ∧
    (s.present i = false → exec (.presenceInactive i) s = .next s) ∧
    (∀ gone : State, s.present i = true →
      (((s.slot i).state = .off ∨ (s.slot i).state = .resetting ∨ (s.slot i).state = .empty) ∧
        gone = { s with
          pins := { s.pins with presence := s.pins.presence.set i false }
          modules := s.modules.set i .unlocked } ∨
       (s.slot i).state = .settling ∧
        gone = { s with
          pins := { s.pins with presence := s.pins.presence.set i false }
          modules := s.modules.set i .unlocked
          sup := { s.sup with
          slots := s.sup.slots.set i
            { s.slot i with state := .empty, lastCause := .removed, timer := none } }
          notices := { s.notices with slotPending := pending } } ∨
       (s.slot i).state ∈ [SlotState.present, .enrolling, .active, .lagging, .faulted] ∧
        gone = { s with
          pins := { s.pins with presence := s.pins.presence.set i false }
          modules := s.modules.set i .unlocked
          sup := { slots := s.sup.slots.set i
                     { s.slot i with state := .empty, lastCause := .removed, timer := none, step := .none, held := none
                                     lag := 0, skip := 0, silence := 0, attempts := 0, attemptCause := none
                                     faultCause := none, enrollReply := none }
                   work := s.sup.work.filter fun w => w.slot ≠ i }
          notices := { s.notices with slotPending := pending }
          inb := if (s.slot i).state.inService = true then
                   { s.inb with backOff := s.inb.backOff.set i none, roomWait := s.inb.roomWait.set i none }
                 else s.inb
          link := { s.link with replies := s.link.replies ++
            (match (s.slot i).enrollReply with
             | some r => if r.session = s.link.session then
                 [{ seq := r.seq, kind := r.kind, crc := r.crc, status := .slotDown, body := [0x01, 0xFF]
                    resend := false }] else []
             | none => []) } }) →
      ((∀ t, s.ctrl.tx = some t → t.slot ≠ i) → (∀ p, s.xfer.pair = some p → p.slot ≠ i) →
        exec (.presenceInactive i) s = .next (settle gone)) ∧
      (∀ t, s.ctrl.tx = some t → t.slot = i →
        exec (.presenceInactive i) s = .next (settle (finishTx t .absent [] gone))) ∧
      (∀ p, s.ctrl.tx = none → s.xfer.pair = some p → p.slot = i →
        exec (.presenceInactive i) s =
          .next (settle (pairResult { p with stage := .second } .absent [] gone))))

/-- R90, R101, R102: what the supervisor makes of the result of a SUPERVISE, TRANSFER or INBOUND transaction before
its requester acts on it. R98, R100: what the result of a check read does to an ACTIVE or LAGGING slot. -/
def Obligations.SupervisorJudges : Prop :=
  (∀ (s : State) (i : SlotId),
      (∀ r ∈ [Result.ack, .retry, .reject, .dataError, .parity], superviseTakes i r s =
        { s with sup := { s.sup with slots := s.sup.slots.set i { s.slot i with silence := 0 } } }) ∧
      ((s.slot i).state.inService = false ∨ min ((s.slot i).silence + 1) 15 < s.params.silenceLimit →
        superviseTakes i .noResponse s = { s with sup := { s.sup with
          slots := s.sup.slots.set i { s.slot i with silence := min ((s.slot i).silence + 1) 15 } } }) ∧
      ((s.slot i).state.inService = true → s.params.silenceLimit ≤ min ((s.slot i).silence + 1) 15 →
        ((superviseTakes i .noResponse s).slot i).state = .faulted ∧
        ((superviseTakes i .noResponse s).slot i).faultCause = some .silent ∧
        (superviseTakes i .noResponse s).faults = (makeRecord
          { kind := .slot, code := .slot .silent, slot := some i, epoch := some (s.slot i).epoch } s).faults ∧
        ∀ j, j ≠ i → (superviseTakes i .noResponse s).slot j = s.slot j) ∧
      (s.present i = true ∨ (s.slot i).state ∈ [SlotState.off, .empty, .settling, .resetting] →
        superviseTakes i .absent s = s) ∧
      (s.present i = false → (s.slot i).state ∈ [SlotState.present, .enrolling, .active, .lagging, .faulted] →
        ((superviseTakes i .absent s).slot i).state = .empty ∧
        ((superviseTakes i .absent s).slot i).lastCause = .removed)) ∧
  (∀ (s : State) (i : SlotId) (data : List Byte) (pending : Vector Bool 16),
      pending = (if s.notices.slotEnabled = true then s.notices.slotPending.set i true else s.notices.slotPending) →
      (s.slot i).step = .none →
      ((s.slot i).state = .active → readWord data ≠ (s.slot i).heartbeat →
        superviseResult i .ack data s = { s with sup := { s.sup with
        slots := s.sup.slots.set i
          { s.slot i with heartbeat := readWord data, lag := 0, skip := 0 } } }) ∧
      ((s.slot i).state = .lagging → readWord data ≠ (s.slot i).heartbeat →
        superviseResult i .ack data s = { s with
          sup := { s.sup with
          slots := s.sup.slots.set i
            { s.slot i with heartbeat := readWord data, lag := 0, skip := 0, state := .active, lastCause := .recovered } }
          notices := { s.notices with slotPending := pending } }) ∧
      (∀ r, r ∈ [Result.retry, .reject, .dataError, .parity, .noResponse] ∨
          r = .ack ∧ readWord data = (s.slot i).heartbeat →
        ((s.slot i).state = .active → 1 < s.params.lagLimit →
          superviseResult i r data s = { s with
            sup := { s.sup with
            slots := s.sup.slots.set i
              { s.slot i with state := .lagging, lastCause := .lag, lag := 1, skip := 0 } }
            notices := { s.notices with slotPending := pending } }) ∧
        ((s.slot i).state = .lagging → (s.slot i).lag + 1 < s.params.lagLimit →
          superviseResult i r data s = { s with sup := { s.sup with
          slots := s.sup.slots.set i
            { s.slot i with lag := (s.slot i).lag + 1, skip := 0 } } }) ∧
        ((s.slot i).state = .lagging ∧ s.params.lagLimit ≤ (s.slot i).lag + 1 ∨
            (s.slot i).state = .active ∧ s.params.lagLimit ≤ 1 →
          ((superviseResult i r data s).slot i).state = .faulted ∧
          ((superviseResult i r data s).slot i).faultCause = some .lagging)))

/-- R91: the grant to SUPERVISE takes the oldest item of the work list and starts its READ; with an empty list the
grant is returned unused. -/
def Obligations.SuperviseGrant : Prop :=
  ∀ s : State, grantDue .supervise s = true →
    (s.sup.work = [] → ∃ a, exec .superviseGrant s = .next { s with arb := a } ∧ a.holder = none) ∧
    (∀ (i : SlotId) (read : WorkRead) (rest : List WorkItem) (m : ModAddr) (count : Nat),
      s.sup.work = { slot := i, read := read } :: rest → s.resetLine i = false → s.present i = true →
      (read = .descriptor ∧ m = 0xFFFFC0 ∧ count = 64 ∨
        (∃ d, read = .baseline ∧ (s.slot i).held = some d ∧ m = d.heartbeatAddr ∧ count = 4) ∨
        ∃ d, read = .check ∧ (s.slot i).descriptor = some d ∧ m = d.heartbeatAddr ∧ count = 4) →
      ∃ a, exec .superviseGrant s = .next { s with
          arb := a, sup := { s.sup with work := rest }
          ctrl := { s.ctrl with
            tx := some { requester := .supervise, command := .read, slot := i, addr := m, count := count, phase := .wait
                         timer := some s.params.responseTimeout } } } ∧
        a.holder = some .supervise ∧ a.choice = none)

/-- R93, R192: the checks on a descriptor's 64 bytes, in their order, and the offsets of its fields. R92 to R96: what
the results of an attempt's two reads do. A good descriptor is held and the baseline read joins the work list; an
ACKed baseline read makes the slot ACTIVE and answers an owed SLOT_ENROLL OK with the new epoch; any other result, or
a bad descriptor, fails the attempt with its cause, and the last attempt faults the slot with it. R103: what a slot
that enters FAULTED leaves: its record, its SLOT fault record, its notice, and an owed SLOT_ENROLL answered
SLOT_DOWN. -/
def Obligations.Enrollment : Prop :=
  (∀ (bs : List Byte), bs.length = 64 →
      (¬(byteAt bs 0 = 0x52 ∧ byteAt bs 1 = 0x42 ∧ byteAt bs 2 = 1) → validateDescriptor bs = .error .enrollBadMarker) ∧
      (byteAt bs 0 = 0x52 → byteAt bs 1 = 0x42 → byteAt bs 2 = 1 →
        ((bs.map BitVec.toNat).sum % 256 ≠ 0 → validateDescriptor bs = .error .enrollBadChecksum) ∧
        ((bs.map BitVec.toNat).sum % 256 = 0 → ∀ d : Descriptor,
          d.cls = byteAt bs 3 → d.revision = byteAt bs 4 →
          d.attention = (byteAt bs 5).getLsbD 0 → d.swap = (byteAt bs 5).getLsbD 1 →
          d.spaceLog2 = (byteAt bs 6).toNat →
          d.heartbeatAddr.toNat = (byteAt bs 7).toNat + 256 * (byteAt bs 8).toNat + 65536 * (byteAt bs 9).toNat →
          d.postAddr.toNat = (byteAt bs 10).toNat + 256 * (byteAt bs 11).toNat + 65536 * (byteAt bs 12).toNat →
          d.maxPost = (byteAt bs 13).toNat + 256 * (byteAt bs 14).toNat →
          (12 ≤ d.spaceLog2 ∧ d.spaceLog2 ≤ 24 ∧ d.heartbeatAddr.toNat % 4 = 0 ∧
              d.heartbeatAddr.toNat + 4 ≤ 2 ^ d.spaceLog2 ∧ d.maxPost ≤ 256 ∧
              (d.attention = true → d.postAddr.toNat % 4 = 0 ∧ d.postAddr.toNat + 264 ≤ 2 ^ d.spaceLog2 ∧
                1 ≤ d.maxPost) →
            validateDescriptor bs = .ok d) ∧
          (¬(12 ≤ d.spaceLog2 ∧ d.spaceLog2 ≤ 24 ∧ d.heartbeatAddr.toNat % 4 = 0 ∧
              d.heartbeatAddr.toNat + 4 ≤ 2 ^ d.spaceLog2 ∧ d.maxPost ≤ 256 ∧
              (d.attention = true → d.postAddr.toNat % 4 = 0 ∧ d.postAddr.toNat + 264 ≤ 2 ^ d.spaceLog2 ∧
                1 ≤ d.maxPost)) →
            validateDescriptor bs = .error .enrollBadLayout)))) ∧
  (∀ (s : State) (i : SlotId) (data : List Byte), (s.slot i).state = .enrolling →
      ((s.slot i).step = .descriptorRead → ∀ d, validateDescriptor data = .ok d →
        superviseResult i .ack data s = { s with
          sup :=
            { slots := s.sup.slots.set i { s.slot i with held := some d, step := .baselineRead }
              work := s.sup.work ++ [{ slot := i, read := .baseline }] } }) ∧
      ((s.slot i).step = .baselineRead → ∀ d, (s.slot i).held = some d →
        superviseResult i .ack data s = { s with
          sup := { s.sup with
          slots := s.sup.slots.set i { s.slot i with
            state := .active, lastCause := .enrolled, descriptor := some d, held := none, epoch := (s.slot i).epoch + 1
            heartbeat := le32 (byteAt data 0) (byteAt data 1) (byteAt data 2) (byteAt data 3), lag := 0, skip := 0
            silence := 0, attemptCause := none, step := .none
            timer := if s.params.checkInterval = 0 then none
                     else some { kind := .check, ms := s.params.checkInterval }
            enrollReply := none } }
          notices := { s.notices with slotPending :=
            if s.notices.slotEnabled = true then s.notices.slotPending.set i true else s.notices.slotPending }
          link := { s.link with replies := s.link.replies ++
            (match (s.slot i).enrollReply with
             | some r => if r.session = s.link.session then
                 [{ seq := r.seq, kind := r.kind, crc := r.crc, status := .ok, body := [(s.slot i).epoch + 1]
                    resend := false }] else []
             | none => []) } }) ∧
      (∀ (r : Result) (cause : SlotCause),
        (r = .ack ∧ (s.slot i).step = .descriptorRead ∧ validateDescriptor data = .error cause ∨
          r ∈ [Result.retry, .reject, .dataError, .parity, .noResponse] ∧ (s.slot i).step ≠ .none ∧
            cause = .enrollNoResponse) →
        ((s.slot i).attempts < s.params.enrollAttempts →
          superviseResult i r data s = { s with sup := { s.sup with
          slots := s.sup.slots.set i
            { s.slot i with attemptCause := some cause, held := none, step := .none
                            timer := some { kind := .gap, ms := 20 } } } }) ∧
        (s.params.enrollAttempts ≤ (s.slot i).attempts →
          superviseResult i r data s = enterFaulted i cause { s with sup := { s.sup with
            slots := s.sup.slots.set i { s.slot i with attemptCause := some cause, held := none } } }))) ∧
  (∀ (s : State) (i : SlotId) (cause : SlotCause), enterFaulted i cause s = { s with
      sup := { slots := s.sup.slots.set i { s.slot i with
                 state := .faulted, lastCause := .fault, faultCause := some cause, timer := none, step := .none
                 held := none, enrollReply := none }
               work := s.sup.work.filter fun w => w.slot ≠ i }
      faults := (makeRecord
        { kind := .slot, code := .slot cause, slot := some i, epoch := some (s.slot i).epoch } s).faults
      notices := { s.notices with slotPending :=
        if s.notices.slotEnabled = true then s.notices.slotPending.set i true else s.notices.slotPending }
      inb := if (s.slot i).state.inService = true then
        { s.inb with backOff := s.inb.backOff.set i none, roomWait := s.inb.roomWait.set i none } else s.inb
      link := { s.link with replies := s.link.replies ++
        (match (s.slot i).enrollReply with
         | some r => if r.session = s.link.session then
             [{ seq := r.seq, kind := r.kind, crc := r.crc, status := .slotDown, body := [0x07, cause.code]
                resend := false }] else []
         | none => []) } })

/-! ### Holding the backplane (chapter 6) -/

/-- R115: HOLD_ACQUIRE's checks in their order, and the PENDING hold it leaves with its reply deferred. -/
def Obligations.HoldAcquire : Prop :=
  ∀ (seq : Byte) (payload : List Byte) (s : State), Accepts Kind.holdAcquire seq payload s →
    (payload.length ≠ 2 →
      exec (.holdAcquire seq payload) s = .next (settle (s.answered Kind.holdAcquire seq payload .malformed []))) ∧
    (∀ n, parseLimit payload = some n →
      (n = 0 ∨ s.params.holdLimit < n →
        exec (.holdAcquire seq payload) s = .next (settle (s.answered Kind.holdAcquire seq payload .range []))) ∧
      (1 ≤ n → n ≤ s.params.holdLimit →
        (s.hold.state ≠ .idle → exec (.holdAcquire seq payload) s =
          .next (settle (s.answered Kind.holdAcquire seq payload .alreadyHeld []))) ∧
        (s.hold.state = .idle → exec (.holdAcquire seq payload) s =
          .next (settle { s.accepted Kind.holdAcquire seq payload with
            hold := { s.hold with state := .pending, limit := some n
                                  acquire := some (reqId Kind.holdAcquire seq payload s) } }))))

/-- R116: the grant to HOLD. The hold is HELD with its limit timer started and the HOLD_ACQUIRE is answered OK with
the limit. R99: every CHECK item leaves the work list, and each counts as a skip of its slot, oldest first
(`SlotTimers`); the other items stay. -/
def Obligations.HoldGrant : Prop :=
  ∀ (s : State) (r : ReqId) (n : Nat) (held : State), grantDue .hold s = true → s.hold.acquire = some r →
    s.hold.limit = some n →
    held = { queueReply r .ok (countBytes n) s with
      arb := (takeGrant .hold s).arb
      hold := { s.hold with state := .held, acquire := none, limitTimer := some n }
      sup := { s.sup with work := s.sup.work.filter fun w => w.read ≠ .check } } →
    exec .holdGrant s = .next (settle
      ((s.sup.work.filter fun w => w.read = .check).foldl (fun u w => skipCheck w.slot u) held)) ∧
    (∃ t, exec .holdGrant s = .next t ∧ t.arb.holder = some .hold ∧ t.arb.choice = none ∧
      t.hold = { s.hold with state := .held, acquire := none, limitTimer := some n } ∧
      (∃ later, t.link.replies = (queueReply r .ok (countBytes n) s).link.replies ++ later) ∧ t.ctrl = s.ctrl ∧
      t.xfer = s.xfer ∧ t.windows = s.windows ∧ t.pages = s.pages ∧ ∀ w ∈ t.sup.work, w.read ≠ .check) ∧
    ((∀ w ∈ s.sup.work, w.read ≠ .check) →
      ∃ a, exec .holdGrant s = .next { queueReply r .ok (countBytes n) s with
          arb := a, hold := { s.hold with state := .held, acquire := none, limitTimer := some n } } ∧
        a.holder = some .hold ∧ a.choice = none) ∧
    (∀ (i j : SlotId), i ≠ j → s.sup.work = [{ slot := i, read := .check }, { slot := j, read := .check }] →
      (s.slot i).skip < s.params.skipAllowance → (s.slot j).skip < s.params.skipAllowance →
      ∃ t, exec .holdGrant s = .next t ∧ t.sup.work = [] ∧
        t.slot i = { s.slot i with skip := (s.slot i).skip + 1 } ∧
        t.slot j = { s.slot j with skip := (s.slot j).skip + 1 } ∧ ∀ k, k ≠ i → k ≠ j → t.slot k = s.slot k)

/-- R117, R118: HOLD_CYCLE's checks, and the start of a cycle that finds none in progress or its place in the queue: a
WRITE or UNLOCK_WRITE is in REQUEST with no timer, any other in WAIT with the response timer (R66, R68), and one whose
slot's lines are not ready is answered ABSENT at once (R65). A payload too short for the fixed fields does not fit.
Data under a command code that is neither WRITE nor UNLOCK_WRITE do not fit (R188), a code that names no command
included; such a code without data is RANGE. -/
def Obligations.HoldCycle : Prop :=
  (∀ (seq : Byte) (payload : List Byte) (s : State), Accepts Kind.holdCycle seq payload s → payload.length < 6 →
    exec (.holdCycle seq payload) s = .next (s.answered Kind.holdCycle seq payload .malformed [])) ∧
  ∀ (seq sl cmd a0 a1 a2 n : Byte) (data payload : List Byte) (s : State),
    payload = [sl, cmd, a0, a1, a2, n] ++ data → Accepts Kind.holdCycle seq payload s →
    (∀ k, Command.ofCode cmd = some k →
      (data.length ≠ (if k = .write ∨ k = .unlockWrite then n.toNat else 0) →
        exec (.holdCycle seq payload) s = .next (s.answered Kind.holdCycle seq payload .malformed [])) ∧
      (data.length = (if k = .write ∨ k = .unlockWrite then n.toNat else 0) →
        (15 < sl.toNat ∨
            (k = .read ∨ k = .write) ∧
              (n.toNat = 0 ∨ 64 < n.toNat ∨ 64 < (le24 a0 a1 a2).toNat % 64 + n.toNat) ∨
            (k = .lockRead ∨ k = .unlockWrite ∨ k = .unlock) ∧ (n.toNat ≠ 4 ∨ (le24 a0 a1 a2).toNat % 4 ≠ 0) →
          exec (.holdCycle seq payload) s = .next (s.answered Kind.holdCycle seq payload .range [])) ∧
        ((k = .read ∨ k = .write → 1 ≤ n.toNat ∧ (le24 a0 a1 a2).toNat % 64 + n.toNat ≤ 64) →
          (k = .lockRead ∨ k = .unlockWrite ∨ k = .unlock → n.toNat = 4 ∧ (le24 a0 a1 a2).toNat % 4 = 0) →
          ∀ (i : SlotId) (c : Cycle), i.val = sl.toNat →
            c = { req := reqId Kind.holdCycle seq payload s, slot := i, command := k, addr := le24 a0 a1 a2
                  count := n.toNat, data := data } →
            (s.hold.state ≠ .held ∨ s.hold.endCause ≠ none →
              exec (.holdCycle seq payload) s = .next (s.answered Kind.holdCycle seq payload .notHeld [])) ∧
            (s.hold.state = .held → s.hold.endCause = none → s.hold.cycle ≠ none →
              exec (.holdCycle seq payload) s = .next { s.accepted Kind.holdCycle seq payload with
                hold := { s.hold with cycles := s.hold.cycles ++ [c] } }) ∧
            (s.hold.state = .held → s.hold.endCause = none → s.hold.cycle = none → s.hold.cycles = [] →
              s.resetLine i = false → s.present i = true →
              exec (.holdCycle seq payload) s = .next { s.accepted Kind.holdCycle seq payload with
                hold := { s.hold with cycle := some c }
                ctrl := { s.ctrl with
                  tx := some
                    { requester := .hold, command := k, slot := i, addr := le24 a0 a1 a2, count := n.toNat
                      writeData := data, phase := if k = .write ∨ k = .unlockWrite then .request else .wait
                      timer := if k = .write ∨ k = .unlockWrite then none else some s.params.responseTimeout } } }) ∧
            (s.hold.state = .held → s.hold.endCause = none → s.hold.cycle = none → s.hold.cycles = [] →
              s.ctrl.tx = none → s.resetLine i = true ∨ s.present i = false →
              exec (.holdCycle seq payload) s = .next (s.answered Kind.holdCycle seq payload .ok [0x06]))))) ∧
    (Command.ofCode cmd = none →
      (data ≠ [] → exec (.holdCycle seq payload) s = .next (s.answered Kind.holdCycle seq payload .malformed [])) ∧
      (data = [] → exec (.holdCycle seq payload) s = .next (s.answered Kind.holdCycle seq payload .range [])))

/-- R118, R121: the end of the cycle in progress. Its reply is queued at once with the raw result, and the data of
an ACKed read; the queued cycles follow, or the hold ends when it is ending. The first queued cycle whose slot's lines
are ready is started, a WRITE or UNLOCK_WRITE in REQUEST with no timer and any other in WAIT with the response timer
(R66, R68); those before it end ABSENT at their start and are answered at once (R65). R121, R122, R159: the end of a
hold. The queued cycles are answered NOT_HELD oldest first, then an owed release OK; HOLD_END is pending with the
limit only after an expiry; the hold is IDLE and the grant returned. -/
def Obligations.HoldEnding : Prop :=
  (∀ (s : State) (c : Cycle) (r : Result) (data : List Byte), s.hold.cycle = some c →
      (s.hold.endCause = none → s.hold.cycles = [] →
        cycleResult r data s = { queueReply c.req .ok
            (r.code :: if r = .ack ∧ (c.command = .read ∨ c.command = .lockRead) then data else []) s with
          hold := { s.hold with cycle := none } }) ∧
      (s.hold.endCause = none →
        cycleResult r data s = startCycles s.hold.cycles { queueReply c.req .ok
            (r.code :: if r = .ack ∧ (c.command = .read ∨ c.command = .lockRead) then data else []) s with
          hold := { s.hold with cycle := none } }) ∧
      (s.hold.state = .held → s.hold.endCause ≠ none →
        cycleResult r data s = endHold { queueReply c.req .ok
            (r.code :: if r = .ack ∧ (c.command = .read ∨ c.command = .lockRead) then data else []) s with
          hold := { s.hold with cycle := none } })) ∧
  (∀ (s : State) (d : Cycle) (rest : List Cycle),
      startCycles [] s = { s with hold := { s.hold with cycle := none, cycles := [] } } ∧
      (s.resetLine d.slot = false → s.present d.slot = true →
        startCycles (d :: rest) s = { s with
          hold := { s.hold with cycle := some d, cycles := rest }
          ctrl := { s.ctrl with
            tx := some
              { requester := .hold, command := d.command, slot := d.slot, addr := d.addr, count := d.count
                writeData := d.data, phase := if d.command = .write ∨ d.command = .unlockWrite then .request else .wait
                timer := if d.command = .write ∨ d.command = .unlockWrite then none
                         else some s.params.responseTimeout } } }) ∧
      (s.resetLine d.slot = true ∨ s.present d.slot = false →
        startCycles (d :: rest) s =
          startCycles rest { queueReply d.req .ok [0x06] s with ctrl := { s.ctrl with tx := none } })) ∧
  (∀ s : State,
      (endHold s).hold = { s.hold with state := .idle, limit := none, limitTimer := none, endCause := none
                                       releaseReply := none, cycles := [] } ∧
      (endHold s).arb = { s.arb with holder := none } ∧
      (endHold s).link.replies = s.link.replies ++
        ((s.hold.cycles.filter fun c => c.req.session = s.link.session).map fun c =>
          { seq := c.req.seq, kind := c.req.kind, crc := c.req.crc, status := .notHeld, body := [], resend := false }) ++
        (match s.hold.releaseReply with
         | some r => if r.session = s.link.session then
             [{ seq := r.seq, kind := r.kind, crc := r.crc, status := .ok, body := [], resend := false }] else []
         | none => []) ∧
      (endHold s).notices.holdEnd =
        (if s.hold.endCause = some .expiry ∧ s.notices.holdEnabled = true then some (s.hold.limit.getD 0)
         else s.notices.holdEnd) ∧
      (endHold s).sup = s.sup ∧ (endHold s).xfer = s.xfer ∧ (endHold s).windows = s.windows ∧
      (endHold s).pages = s.pages ∧ (endHold s).ctrl = s.ctrl ∧ (endHold s).inb = s.inb ∧
      (endHold s).faults = s.faults ∧ (endHold s).params = s.params ∧ (endHold s).modules = s.modules)

/-- R119: HOLD_RELEASE by the hold unit's state. -/
def Obligations.HoldRelease : Prop :=
  ∀ (seq : Byte) (payload : List Byte) (s : State), Accepts Kind.holdRelease seq payload s →
    (payload ≠ [] →
      exec (.holdRelease seq payload) s = .next (settle (s.answered Kind.holdRelease seq payload .malformed []))) ∧
    (payload = [] →
      (s.hold.state = .idle ∨ s.hold.state = .held ∧ s.hold.endCause ≠ none →
        exec (.holdRelease seq payload) s = .next (settle (s.answered Kind.holdRelease seq payload .notHeld []))) ∧
      (∀ r, s.hold.state = .pending → s.hold.acquire = some r → r.session = s.link.session →
        exec (.holdRelease seq payload) s = .next (settle { s.accepted Kind.holdRelease seq payload with
          hold := { s.hold with state := .idle, acquire := none, limit := none }
          link := { (s.accepted Kind.holdRelease seq payload).link with
            replies := s.link.replies ++
              [{ seq := r.seq, kind := r.kind, crc := r.crc, status := .cancelled, body := [], resend := false },
               { seq := seq, kind := Kind.holdRelease, status := .ok, body := [], resend := false
                 crc := (requestFrame Kind.holdRelease seq payload).crc }] } })) ∧
      (s.hold.state = .held → s.hold.endCause = none → s.hold.cycle ≠ none →
        exec (.holdRelease seq payload) s = .next (settle { s.accepted Kind.holdRelease seq payload with
          hold := { s.hold with limitTimer := none, endCause := some .release
                                releaseReply := some (reqId Kind.holdRelease seq payload s) } })) ∧
      (s.hold.state = .held → s.hold.endCause = none → s.hold.cycle = none → s.hold.cycles = [] →
        exec (.holdRelease seq payload) s = .next (settle { s.answered Kind.holdRelease seq payload .ok [] with
          hold := { s.hold with state := .idle, limit := none, limitTimer := none, endCause := none
                                releaseReply := none }
          arb := { s.arb with holder := none } })))

/-- R120, R121: the limit timer's expiry in HELD, and HOLD_ENDS where a hold is ending with no cycle in progress
(log 5). With no limit timer running nothing expires (log 3). -/
def Obligations.LimitTimerExpiry : Prop :=
  (∀ s : State, s.hold.state = .held → s.hold.limitTimer.isSome = true →
    (s.hold.cycle ≠ none → exec .limitTimerExpiry s = .next (settle { s with
      hold := { s.hold with limitTimer := none, endCause := some .expiry } })) ∧
    (s.hold.cycle = none → exec .limitTimerExpiry s = .next (settle (endHold { s with
      hold := { s.hold with limitTimer := none, endCause := some .expiry } })))) ∧
  (∀ s : State, s.hold.limitTimer = none → exec .limitTimerExpiry s = .next s) ∧
  (∀ s : State, s.hold.state = .held → s.hold.endCause ≠ none → s.hold.cycle = none → s.link.resetTaken = false →
    exec .holdEnds s = .next (settle (endHold s))) ∧
  (∀ s : State, s.hold.state ≠ .held ∨ s.hold.endCause = none ∨ s.hold.cycle ≠ none →
    ∃ a, exec .holdEnds s = .next { s with arb := a } ∧ a.holder = s.arb.holder)

/-! ### Attention and inbound posts (chapter 7) -/

/-- R144, R145: POST_CREDIT and ATTENTION_MASK. -/
def Obligations.CreditAndMask : Prop :=
  ∀ (seq : Byte) (payload : List Byte) (s : State),
    (Accepts Kind.postCredit seq payload s →
      (payload.length ≠ 1 →
        exec (.postCredit seq payload) s = .next (s.answered Kind.postCredit seq payload .malformed [])) ∧
      (∀ n : Byte, payload = [n] →
        (64 < n.toNat →
          exec (.postCredit seq payload) s = .next (s.answered Kind.postCredit seq payload .range [])) ∧
        (n.toNat ≤ 64 →
          exec (.postCredit seq payload) s = .next
            { s.answered Kind.postCredit seq payload .ok [byteOf (min (s.inb.credits + n.toNat) 64)] with
              inb := { s.inb with credits := min (s.inb.credits + n.toNat) 64 } }))) ∧
    (Accepts Kind.attentionMask seq payload s →
      (payload.length ≠ 4 →
        exec (.attentionMask seq payload) s = .next (s.answered Kind.attentionMask seq payload .malformed [])) ∧
      (∀ change value, parseAttentionMask payload = some (change, value) →
        ∃ (masked : Vector Bool 16) (word : BitVec 16),
          (∀ i : SlotId, masked[i] = if change.getLsbD i.val = true then value.getLsbD i.val else s.inb.masked[i]) ∧
          (∀ i : SlotId, word.getLsbD i.val = masked[i]) ∧
          exec (.attentionMask seq payload) s = .next (settle
            { s.answered Kind.attentionMask seq payload .ok (bytes16 word) with
              inb := { s.inb with masked := masked } })))

/-- R132, R142: an attention line takes its level, and a running back-off timer stops at its expiry; whether the
INBOUND request waits is judged anew by the terms of R132. That an expiry with no back-off running changes nothing is
the model's choice (log 3). -/
def Obligations.AttentionAndBackOff : Prop :=
  (∀ (s : State) (i : SlotId) (level : Bool),
    exec (.attentionChange i level) s =
      .next (settle { s with pins := { s.pins with attention := s.pins.attention.set i level } })) ∧
  (∀ (s : State) (i : SlotId) (ms : Nat), s.inb.backOff[i] = some ms →
    exec (.backOffExpiry i) s = .next (settle { s with inb := { s.inb with backOff := s.inb.backOff.set i none } })) ∧
  (∀ (s : State) (i : SlotId), s.inb.backOff[i] = none → exec (.backOffExpiry i) s = .next s) ∧
  (∀ (s : State) (i : SlotId), eligible s i = true ↔
    s.pins.attention[i] = true ∧ ((s.slot i).state = .active ∨ (s.slot i).state = .lagging) ∧
      (∃ d, (s.slot i).descriptor = some d ∧ d.attention = true) ∧ s.inb.masked[i] = false ∧
      s.inb.backOff[i] = none ∧ s.inb.roomWait[i] = none) ∧
  (∀ s : State, s.link.resetTaken = false → s.arb.holder ≠ some .inbound →
    ((settle s).arb.waiting.inbound = true ↔ s.inb.service ≠ none ∨ ∃ i, eligible s i = true))

/-- R133, R134, R138, R139, R141: the grant to INBOUND. With no service, the first eligible slot from the pointer on is
selected and its header read started; with one, its next transaction is started while its slot is ACTIVE or LAGGING
with the epoch of the selection: a read in WAIT with the response timer, a take write in REQUEST with no timer (R66,
R68). Otherwise the service is dropped and the grant returned unused, and a reservation given up ends every room wait
that the new room suffices for (R129, R137). -/
def Obligations.InboundGrant : Prop :=
  ∀ s : State, grantDue .inbound s = true →
    (s.inb.service = none → (∀ i, eligible s i = false) →
      ∃ a, exec .inboundGrant s = .next { s with arb := a } ∧ a.holder = none) ∧
    (∀ (k : Fin 16) (i : SlotId) (d : Descriptor), s.inb.service = none → i = s.inb.pointer + k →
      eligible s i = true → (∀ j : Fin 16, j.val < k.val → eligible s (s.inb.pointer + j) = false) →
      (s.slot i).descriptor = some d → s.present i = true →
      ∃ a, exec .inboundGrant s = .next { s with
          arb := a
          inb := { s.inb with pointer := i + 1
                              service := some { slot := i, epoch := (s.slot i).epoch, postAddr := d.postAddr
                                                step := .header } }
          ctrl := { s.ctrl with
            tx := some { requester := .inbound, command := .read, slot := i, addr := d.postAddr, count := 4
                         phase := .wait, timer := some s.params.responseTimeout } } } ∧
        a.holder = some .inbound) ∧
    (∀ v : Service, s.inb.service = some v → (s.slot v.slot).state.inService = true → (s.slot v.slot).epoch = v.epoch →
      s.present v.slot = true →
      ∃ a t, exec .inboundGrant s = .next { s with arb := a, ctrl := { s.ctrl with tx := some t } } ∧
        a.holder = some .inbound ∧
        (v.step = .header → t =
          { requester := .inbound, command := .read, slot := v.slot, addr := v.postAddr, count := 4
            phase := .wait, timer := some s.params.responseTimeout }) ∧
        (∀ m, v.step = .body → m = v.postAddr + 4 + BitVec.ofNat 24 v.body.length → t =
          { requester := .inbound, command := .read, slot := v.slot, addr := m
            count := min (64 - m.toNat % 64) (v.length - v.body.length)
            phase := .wait, timer := some s.params.responseTimeout }) ∧
        (v.step = .take ∨ v.step = .discardTake → t =
          { requester := .inbound, command := .write, slot := v.slot, addr := v.postAddr + 260, count := 4
            writeData := [v.tag, 0, 0, 0], phase := .request, timer := none })) ∧
    (∀ (v : Service) (roomWait : Vector (Option Nat) 16), s.inb.service = some v →
      (s.slot v.slot).state.inService = false ∨ (s.slot v.slot).epoch ≠ v.epoch →
      roomWait = (if s.inb.reserved = 0 then s.inb.roomWait else s.inb.roomWait.map fun w => match w with
        | some n => if s.inb.posts.length < 32 ∧ n ≤ 8192 - (s.inb.posts.map fun p => p.body.length).sum then none
                    else some n
        | none => none) →
      ∃ a, exec .inboundGrant s = .next { s with
          arb := a
          inb := { s.inb with service := none, reserved := 0, roomWait := roomWait } } ∧
        a.holder = none)

/-- The result of an inbound transaction goes to the service in progress. R134 to R137, R142: what the result of a
header read does to its service. R138 to R140: what the results of body reads and take writes do. An ACKed take write
puts the post at the tail of the queue; a failed one makes an INBOUND record, drops the partial body and leaves the
posts as they were. R142: a failure, a RETRY or an empty header starts the back-off of a slot that is still ACTIVE or
LAGGING, and of no other. R141: ABSENT drops the service with no record and no back-off. R129, R137: a reservation
given up ends every room wait that the new room suffices for, and where there was none no room wait ends. -/
def Obligations.InboundResults : Prop :=
  (∀ (s : State) (v : Service) (r : Result) (data : List Byte), s.inb.service = some v →
      inboundResult r data s = serviceResult v r data s) ∧
  (∀ (s : State) (v : Service) (l0 l1 channel tag : Byte) (n most : Nat) (backOff : Vector (Option Nat) 16),
      v.step = .header → s.inb.service = some v → n = l0.toNat + 256 * l1.toNat → s.inb.reserved = 0 →
      most = ((s.slot v.slot).descriptor.map Descriptor.maxPost).getD 0 →
      backOff = (if (s.slot v.slot).state.inService = true then
        s.inb.backOff.set v.slot (some (if s.params.checkInterval = 0 then 100 else s.params.checkInterval))
        else s.inb.backOff) →
      (n = 0 → serviceResult v .ack [l0, l1, channel, tag] s =
        { s with inb := { s.inb with service := none, backOff := backOff } }) ∧
      (256 < n ∨ most < n ∧ 1 ≤ n →
        serviceResult v .ack [l0, l1, channel, tag] s =
          { makeRecord { kind := .inbound, code := .badLength, slot := some v.slot, epoch := some v.epoch
                         moduleAddr := some v.postAddr, channel := some channel, tag := some tag } s with
            inb := { s.inb with
              service := some { v with step := .discardTake, length := n, channel := channel, tag := tag } } }) ∧
      (1 ≤ n → n ≤ 256 → n ≤ most →
        (s.inb.posts.length < 32 → (s.inb.posts.map fun p => p.body.length).sum + n ≤ 8192 →
          serviceResult v .ack [l0, l1, channel, tag] s = { s with inb := { s.inb with
            reserved := n
            service := some { v with step := .body, length := n, channel := channel, tag := tag, body := [] } } }) ∧
        (32 ≤ s.inb.posts.length ∨ 8192 < (s.inb.posts.map fun p => p.body.length).sum + n →
          serviceResult v .ack [l0, l1, channel, tag] s = { s with inb := { s.inb with
            service := none, roomWait := s.inb.roomWait.set v.slot (some n) } })) ∧
      (∀ data, serviceResult v .retry data s =
        { s with inb := { s.inb with service := none, backOff := backOff } }) ∧
      (∀ data r st, (r, st) ∈ [(Result.reject, Status.rejected), (.dataError, .parity), (.parity, .parity),
          (.noResponse, .noResponse)] →
        serviceResult v r data s =
          { makeRecord { kind := .inbound, code := .status st, slot := some v.slot, epoch := some v.epoch
                         moduleAddr := some v.postAddr } s with
            inb := { s.inb with service := none, backOff := backOff } })) ∧
  (∀ (s : State) (v : Service) (data : List Byte) (backOff roomWait : Vector (Option Nat) 16),
      s.inb.service = some v →
      roomWait = (if s.inb.reserved = 0 then s.inb.roomWait else s.inb.roomWait.map fun w => match w with
        | some n => if s.inb.posts.length < 32 ∧ n ≤ 8192 - (s.inb.posts.map fun p => p.body.length).sum then none
                    else some n
        | none => none) →
      backOff = (if (s.slot v.slot).state.inService = true then
        s.inb.backOff.set v.slot (some (if s.params.checkInterval = 0 then 100 else s.params.checkInterval))
        else s.inb.backOff) →
      (v.step = .body → v.body.length + data.length < v.length →
        serviceResult v .ack data s = { s with inb := { s.inb with service := some { v with body := v.body ++ data } } }) ∧
      (v.step = .body → v.body.length + data.length = v.length →
        serviceResult v .ack data s = { s with inb := { s.inb with
          service := some { v with body := v.body ++ data, step := .take } } }) ∧
      (v.step = .take →
        serviceResult v .ack data s = { s with inb := { s.inb with
          posts := s.inb.posts ++ [{ number := s.inb.nextNumber, slot := v.slot, epoch := v.epoch, channel := v.channel
                                     tag := v.tag, body := v.body, stamp := s.stamp }]
          nextNumber := s.inb.nextNumber + 1, reserved := 0, service := none } }) ∧
      (v.step = .discardTake →
        serviceResult v .ack data s = { s with inb := { s.inb with service := none } }) ∧
      (∀ r st, (r, st) ∈ [(Result.retry, Status.retryExhausted), (.reject, .rejected), (.dataError, .parity),
          (.parity, .parity), (.noResponse, .noResponse)] →
        (∀ m, v.step = .body ∧ m = v.postAddr + 4 + BitVec.ofNat 24 v.body.length ∨
            v.step = .take ∧ m = v.postAddr + 260 →
          serviceResult v r data s =
            { makeRecord { kind := .inbound, code := .status st, slot := some v.slot, epoch := some v.epoch
                           moduleAddr := some m, channel := some v.channel, tag := some v.tag } s with
              inb := { s.inb with service := none, reserved := 0, roomWait := roomWait
                                  backOff := backOff } }) ∧
        (v.step = .discardTake →
          serviceResult v r data s =
            { makeRecord { kind := .inbound, code := .status st, slot := some v.slot, epoch := some v.epoch
                           moduleAddr := some (v.postAddr + 260), channel := some v.channel, tag := some v.tag } s with
              inb := { s.inb with service := none, backOff := backOff } })) ∧
      serviceResult v .absent data s = { s with inb := { s.inb with
        service := none, reserved := 0, roomWait := roomWait } })

/-! ### Faults and notices (chapter 8) -/

/-- R151, R152: a record made takes the next number and the stamp and joins the tail; a full list loses its oldest,
which the new record's lost-oldest indication reports. STAMP_TICK moves the stamp on by one, wrapping. -/
def Obligations.MakeRecord : Prop :=
  (∀ (r : FaultRecord) (s : State), s.faults.entries.length < 32 →
    makeRecord r s = { s with faults := { s.faults with
      entries := s.faults.entries ++
        [{ record := { r with number := s.faults.next, stamp := s.stamp, lost := false }
           pending := s.notices.faultEnabled }]
      next := s.faults.next + 1, given := true } }) ∧
  (∀ (r : FaultRecord) (s : State) (e : FaultEntry) (rest : List FaultEntry), s.faults.entries = e :: rest →
    rest.length = 31 →
    makeRecord r s = { s with faults := { s.faults with
      entries := rest ++ [{ record := { r with number := s.faults.next, stamp := s.stamp, lost := true }
                            pending := s.notices.faultEnabled }]
      next := s.faults.next + 1, given := true } }) ∧
  (∀ s : State, ∃ v : Word, v.toNat = (s.stamp.toNat + 1) % 2 ^ 32 ∧ exec .stampTick s = .next { s with stamp := v })

/-- R154: FAULT_READ, in a list whose numbers run up to the next number (`FaultLaw`): its checks in their order; the
records from the one asked for on, or from the head when that is gone, and none when it has not been given; the two
counts and the next fault number; and nothing changed. R190: each record is returned in 26 bytes, its presence word
telling which optional fields it holds. -/
def Obligations.FaultRead : Prop :=
  (∀ r : FaultRecord, ∃ presence : BitVec 16,
    r.bytes = bytes32 r.number ++ [(match r.kind with | .postedWrite => 1 | .inbound => 2 | .slot => 3 : Byte)] ++ bytes32 r.stamp ++
      [r.code.code] ++ bytes16 presence ++
      [(match r.slot with | some i => byteOf i.val | none => 0), r.epoch.getD 0, r.seq.getD 0] ++
      bytes32 (r.bridge.getD 0) ++ bytes24 (r.moduleAddr.getD 0) ++ countBytes (r.completed.getD 0) ++
      [r.channel.getD 0, r.tag.getD 0] ∧
    presence.getLsbD 0 = r.lost ∧ presence.getLsbD 1 = r.slot.isSome ∧ presence.getLsbD 2 = r.epoch.isSome ∧
    presence.getLsbD 3 = r.seq.isSome ∧ presence.getLsbD 4 = r.bridge.isSome ∧
    presence.getLsbD 5 = r.moduleAddr.isSome ∧ presence.getLsbD 6 = r.completed.isSome ∧
    presence.getLsbD 7 = r.channel.isSome ∧ presence.getLsbD 8 = r.tag.isSome ∧
    ∀ k, 9 ≤ k → presence.getLsbD k = false) ∧
  ∀ (seq : Byte) (payload : List Byte) (s : State), Accepts Kind.faultRead seq payload s → s.FaultLaw →
    (payload.length ≠ 5 →
      exec (.faultRead seq payload) s = .next (s.answered Kind.faultRead seq payload .malformed [])) ∧
    (∀ start most, parseFaultRead payload = some (start, most) →
      (most = 0 ∨ 8 < most →
        exec (.faultRead seq payload) s = .next (s.answered Kind.faultRead seq payload .range [])) ∧
      (1 ≤ most → most ≤ 8 → ∀ (age : Nat) (found : List FaultEntry),
        age = (s.faults.next - 1 - start).toNat →
        (s.faults.given = false ∨ 2 ^ 31 ≤ age → found = []) →
        (s.faults.given = true → age < 2 ^ 31 →
          found = (s.faults.entries.drop (s.faults.entries.length - (age + 1))).take most) →
        exec (.faultRead seq payload) s = .next (s.answered Kind.faultRead seq payload .ok
          ([byteOf found.length, byteOf s.faults.entries.length] ++ bytes32 s.faults.next ++
            found.flatMap fun e => e.record.bytes))))

/-- R155: FAULT_CLEAR, in a list whose numbers run up to the next number (`FaultLaw`): its checks in their order;
the records of the number named and older removed with their pending indications, the counts of those removed and of
those left in the reply, and nothing else changed. -/
def Obligations.FaultClear : Prop :=
  ∀ (seq : Byte) (payload : List Byte) (s : State), Accepts Kind.faultClear seq payload s → s.FaultLaw →
    (payload.length ≠ 4 →
      exec (.faultClear seq payload) s = .next (s.answered Kind.faultClear seq payload .malformed [])) ∧
    (∀ upto, parseFaultClear payload = some upto → ∀ age : Nat, age = (s.faults.next - 1 - upto).toNat →
      (s.faults.given = false ∨ 2 ^ 31 ≤ age →
        exec (.faultClear seq payload) s = .next (s.answered Kind.faultClear seq payload .range [])) ∧
      (s.faults.given = true → age < 2 ^ 31 →
        exec (.faultClear seq payload) s = .next
          { s.answered Kind.faultClear seq payload .ok
              [byteOf (s.faults.entries.length - age), byteOf (min s.faults.entries.length age)] with
            faults := { s.faults with entries := s.faults.entries.drop (s.faults.entries.length - age) } }))

/-- R161, R188: NOTICE_MASK. A kind whose change flag is set takes its value flag, and disabling a kind clears what
is pending of it. -/
def Obligations.NoticeMask : Prop :=
  ∀ (seq : Byte) (payload : List Byte) (s : State), Accepts Kind.noticeMask seq payload s →
    (payload.length ≠ 2 →
      exec (.noticeMask seq payload) s = .next (s.answered Kind.noticeMask seq payload .malformed [])) ∧
    (∀ change value : Byte, payload = [change, value] →
      (8 ≤ change.toNat ∨ 8 ≤ value.toNat →
        exec (.noticeMask seq payload) s = .next (s.answered Kind.noticeMask seq payload .range [])) ∧
      (change.toNat < 8 → value.toNat < 8 → ∀ slots faults holds : Bool,
        slots = (if change.getLsbD 0 = true then value.getLsbD 0 else s.notices.slotEnabled) →
        faults = (if change.getLsbD 1 = true then value.getLsbD 1 else s.notices.faultEnabled) →
        holds = (if change.getLsbD 2 = true then value.getLsbD 2 else s.notices.holdEnabled) →
        exec (.noticeMask seq payload) s = .next
          { s.answered Kind.noticeMask seq payload .ok [flagBit slots 0 ||| flagBit faults 1 ||| flagBit holds 2] with
            notices := { slotPending := if slots = true then s.notices.slotPending else Vector.replicate 16 false
                         holdEnd := if holds = true then s.notices.holdEnd else none
                         slotEnabled := slots, faultEnabled := faults, holdEnabled := holds }
            faults := { s.faults with entries :=
              if faults = true then s.faults.entries
              else s.faults.entries.map fun e => { e with pending := false } } }))

/-! ### The host link (chapter 9) -/

/-- R179 and R180: ECHO returns its payload of up to 4096 bytes and CONFIG_GET all 13 parameters, each code with its
value as it stands, in the order of the parameter table; neither changes any state but the link's own account of the
request and its reply. -/
def Obligations.EchoAndConfigGet : Prop :=
  ∀ (seq : Byte) (payload : List Byte) (s : State),
    (Accepts Kind.echo seq payload s →
      (4096 < payload.length →
        exec (.echo seq payload) s = .next (s.answered Kind.echo seq payload .malformed [])) ∧
      (payload.length ≤ 4096 →
        exec (.echo seq payload) s = .next (s.answered Kind.echo seq payload .ok payload))) ∧
    (Accepts Kind.configGet seq payload s →
      (payload ≠ [] →
        exec (.configGet seq payload) s = .next (s.answered Kind.configGet seq payload .malformed [])) ∧
      (payload = [] →
        exec (.configGet seq payload) s = .next (s.answered Kind.configGet seq payload .ok
          ([0x01] ++ countBytes s.params.responseTimeout ++ [0x02] ++ countBytes s.params.retryLimit ++
           [0x03] ++ countBytes s.params.retryDelay ++ [0x04] ++ countBytes s.params.inboundTurn ++
           [0x05] ++ countBytes s.params.settleTime ++ [0x06] ++ (if s.params.autoEnroll = true then [1, 0] else [0, 0]) ++
           [0x07] ++ countBytes s.params.enrollAttempts ++ [0x08] ++ countBytes s.params.checkInterval ++
           [0x09] ++ countBytes s.params.skipAllowance ++ [0x0A] ++ countBytes s.params.lagLimit ++
           [0x0B] ++ countBytes s.params.silenceLimit ++ [0x0C] ++ countBytes s.params.slotResetPulse ++
           [0x0D] ++ countBytes s.params.holdLimit))))

/-- R181, R97: CONFIG_SET checks every pair before it applies any, and then applies all of them: the parameters it
names take their values, the others keep theirs, and nothing changes but the check timers. CHECK_INTERVAL changed to
0 stops every check timer, and changed from 0 starts one in every ACTIVE and LAGGING slot. -/
def Obligations.ConfigSet : Prop :=
  (∀ (seq : Byte) (payload : List Byte) (s : State), Accepts Kind.configSet seq payload s →
      (payload = [] ∨ payload.length % 3 ≠ 0 ∨ 39 < payload.length →
        exec (.configSet seq payload) s = .next (s.answered Kind.configSet seq payload .malformed [])) ∧
      (∀ pairs : List (Byte × BitVec 16), payload = pairs.flatMap (fun x => x.1 :: bytes16 x.2) → 1 ≤ pairs.length →
        pairs.length ≤ 13 →
        ((∃ x ∈ pairs, ∀ p : ParamId, p.code ≠ x.1) ∨ ¬(pairs.map Prod.fst).Nodup ∨
            (∃ x ∈ pairs, ∃ p : ParamId, p.code = x.1 ∧ p.inRange x.2.toNat = false) →
          exec (.configSet seq payload) s = .next (s.answered Kind.configSet seq payload .range [])) ∧
        ((∀ x ∈ pairs, ∃ p : ParamId, p.code = x.1 ∧ p.inRange x.2.toNat = true) → (pairs.map Prod.fst).Nodup →
          ∃ t, exec (.configSet seq payload) s = .next t ∧
            t = { s.answered Kind.configSet seq payload .ok payload with params := t.params, sup := t.sup } ∧
            (∀ x ∈ pairs, ∀ p : ParamId, p.code = x.1 → t.params.get p = x.2.toNat) ∧
            (∀ p : ParamId, p.code ∉ pairs.map Prod.fst → t.params.get p = s.params.get p) ∧
            t.sup.work = s.sup.work ∧
            (∀ i, t.slot i = { s.slot i with timer := (t.slot i).timer }) ∧
            t.sup = (setParams t.params s).sup ∧
            ((s.params.checkInterval = 0 ↔ t.params.checkInterval = 0) → t.sup = s.sup)))) ∧
  (∀ (s : State) (p : Params) (i : SlotId),
      (s.params.checkInterval ≠ 0 → p.checkInterval = 0 →
        ((setParams p s).slot i).timer = (match (s.slot i).timer with
          | some t => if t.kind = .check then none else some t
          | none => none)) ∧
      (s.params.checkInterval = 0 → p.checkInterval ≠ 0 →
        ((setParams p s).slot i).timer = if (s.slot i).state.inService = true
          then some { kind := .check, ms := p.checkInterval } else (s.slot i).timer))

/-- R174, R160, R146: the output arbiter's order. With the transmitter idle and the link OPEN the first frame the
order names is begun and its source acts; otherwise the command changes nothing, the model's choice (log 3). R191: the
payloads of the notices; a FAULT notice carries the record's 26 bytes, whose layout `FaultRead` gives. -/
def Obligations.OutputOrder : Prop :=
  ∀ s : State,
    (s.link.transmitter ≠ none ∨ s.link.phase ≠ .opened → exec .outputFrameBegin s = .next s) ∧
    (s.link.transmitter = none → s.link.phase = .opened →
      (∀ r rest, s.link.replies = r :: rest → exec .outputFrameBegin s = .next { s with link := { s.link with
        replies := rest
        transmitter := some ({ cls := .reply, kind := r.kind, seq := r.seq, payload := r.status.code :: r.body },
                             .reply r) } }) ∧
      (s.link.replies = [] →
        (∀ seq kind, s.link.overload = some (seq, kind) →
          exec .outputFrameBegin s = .next { s with link := { s.link with
            overload := none
            transmitter := some ({ cls := .reply, kind := kind, seq := seq, payload := [0x16] }, .overload) } }) ∧
        (s.link.overload = none →
          (∀ k, s.link.linkUp = some k → exec .outputFrameBegin s = .next { s with link := { s.link with
            linkUp := none, noticeCounter := s.link.noticeCounter + 1
            transmitter := some ({ cls := .notice, kind := 0x80, seq := s.link.noticeCounter
                                   payload :=
                                    [(match k with | .powerOn => 1 | .bridge => 2 | .brk => 3), 0x16, 0x4B, 0x01,
                                     16, 8, 0x00, 0x08, 16, 32, 0x00, 0x20, 32, 8, 8, 0x40, 0x10] ++
                                    bytes32 s.faults.next ++ bytes32 s.stamp }, .linkUp k) } }) ∧
          (s.link.linkUp = none →
            (∀ i : SlotId, s.notices.slotPending[i] = true → (∀ j : SlotId, j < i → s.notices.slotPending[j] = false) →
              exec .outputFrameBegin s = .next { s with
                notices := { s.notices with slotPending := s.notices.slotPending.set i false }
                link := { s.link with
                  noticeCounter := s.link.noticeCounter + 1
                  transmitter := some ({ cls := .notice, kind := 0x81, seq := s.link.noticeCounter
                                         payload := [byteOf i.val, (s.slot i).state.code, (s.slot i).epoch,
                                                     (s.slot i).lastCause.code] }, .slotState i) } }) ∧
            ((∀ i : SlotId, s.notices.slotPending[i] = false) →
              (∀ limit, s.notices.holdEnd = some limit → exec .outputFrameBegin s = .next { s with
                notices := { s.notices with holdEnd := none }
                link := { s.link with
                  noticeCounter := s.link.noticeCounter + 1
                  transmitter := some ({ cls := .notice, kind := 0x83, seq := s.link.noticeCounter
                                         payload := 0x01 :: countBytes limit }, .holdEnd limit false) } }) ∧
              (s.notices.holdEnd = none →
                (∀ front e rest, s.faults.entries = front ++ e :: rest → e.pending = true →
                  (∀ d ∈ front, d.pending = false) →
                  exec .outputFrameBegin s = .next { s with
                    faults := s.faults.mark e.record.number false
                    link := { s.link with
                      noticeCounter := s.link.noticeCounter + 1
                      transmitter := some ({ cls := .notice, kind := 0x82, seq := s.link.noticeCounter
                                             payload := e.record.bytes }, .fault e.record.number) } }) ∧
                ((∀ e ∈ s.faults.entries, e.pending = false) →
                  (∀ p rest, s.inb.posts = p :: rest → 0 < s.inb.credits →
                    exec .outputFrameBegin s = .next { s with
                      inb := { s.inb with credits := s.inb.credits - 1 }
                      link := { s.link with
                        noticeCounter := s.link.noticeCounter + 1
                        transmitter := some ({ cls := .notice, kind := 0x84, seq := s.link.noticeCounter
                                               payload := bytes16 p.number ++ [byteOf p.slot.val, p.epoch, p.channel, p.tag] ++
                                                countBytes p.body.length ++ bytes32 p.stamp ++ p.body }, .post) } }) ∧
                  (s.inb.posts = [] ∨ s.inb.credits = 0 → exec .outputFrameBegin s = .next s))))))))

/-- R170, R173, R174, R146: the last byte of a frame. The transmitter is idle; a reply's request leaves the
unreplied and the reply enters the cache, whose oldest entry makes room; a sent post leaves its queue; a resend and
the other frames change nothing more. The OK of a BRIDGE_RESET has its own statement. That FRAME_SENT with no frame on
the line changes nothing is the model's choice (log 3). -/
def Obligations.FrameSent : Prop :=
  (∀ s : State, s.link.transmitter = none → exec .frameSent s = .next s) ∧
  (∀ (s : State) (f : Frame) (r : Reply) (others : List CacheEntry), s.link.transmitter = some (f, .reply r) →
    ¬(r.kind = Kind.bridgeReset ∧ r.status = .ok) → r.resend = false →
    others = s.link.cache.filter (fun e => e.seq ≠ r.seq) →
    exec .frameSent s = .next (settle { s with link := { s.link with
      transmitter := none
      unreplied := s.link.unreplied.filter fun q => q.seq ≠ r.seq
      cache := (if 8 ≤ others.length then others.drop 1 else others) ++
        [{ seq := r.seq, kind := r.kind, crc := r.crc, status := r.status, body := r.body }] } })) ∧
  (∀ (s : State) (f : Frame) (src : FrameSource), s.link.transmitter = some (f, src) →
    (∃ r : Reply, src = .reply r ∧ r.resend = true) ∨ src = .overload ∨ (∃ k, src = .linkUp k) ∨
      (∃ i, src = .slotState i) ∨ (∃ n b, src = .holdEnd n b) ∨ (∃ n, src = .fault n) →
    exec .frameSent s = .next (settle { s with link := { s.link with transmitter := none } })) ∧
  (∀ (s : State) (f : Frame) (p : Post) (rest : List Post), s.link.transmitter = some (f, .post) →
    s.inb.posts = p :: rest →
    ∃ t, exec .frameSent s = .next t ∧
      t = { s with arb := t.arb, link := { s.link with transmitter := none }
                   inb := { s.inb with posts := rest, roomWait := t.inb.roomWait } } ∧
      ∀ i : SlotId, t.inb.roomWait[i] = (match s.inb.roomWait[i] with
        | some n => if rest.length < 32 ∧ n ≤ 8192 - (rest.map fun q => q.body.length).sum - s.inb.reserved then none
                    else some n
        | none => none))

/-- R3, R20, R61, R125, R178: the OK of a BRIDGE_RESET has been sent to its last byte, and the reset is taken: the
link waits, its session has ended, and windows, page map, transfer queue and a pending hold are reset; that the
pending hold is IDLE from the taking on is the model's reading (log 17). R81, R111, R125, R131, R153, R162, R178: a
bridge reset completes once no transaction and no locked pair is under way. Every slot that is not OFF is in
RESETTING, the inbound engine, the hold and the arbiter are as at power-on (but for the next post number), the fault
list is empty with its numbering kept, and LINK_UP is pending. That the completion is a step of its own (log 6), and
that the row changes nothing where it is not due (log 3), is the model's choice. -/
def Obligations.BridgeReset : Prop :=
  (∀ (s : State) (f : Frame) (r : Reply), s.link.transmitter = some (f, .reply r) → r.kind = Kind.bridgeReset →
      r.status = .ok → r.resend = false → s.link.phase = .opened →
      ∃ t, exec .frameSent s = .next t ∧
        t = { s with link := t.link, arb := t.arb, hold := t.hold, windows := Vector.replicate 8 {}
                     pages := Vector.replicate 2048 {}
                     xfer := { queue := [], postedFailures := 0, pair := s.xfer.pair.map fun p => { p with entry := none } } } ∧
        t.link = { s.link with phase := .resetWait, resetTaken := true, framer := .hunt, session := s.link.session + 1
                               unreplied := [], replies := [], cache := [], overload := none, transmitter := none } ∧
        t.arb.waiting = {} ∧ t.arb.holder = s.arb.holder ∧ t.arb.choice = none ∧
        (s.hold.state = .pending → t.hold = { s.hold with state := .idle, acquire := none, limit := none }) ∧
        (s.hold.state ≠ .pending → t.hold = { s.hold with limitTimer := none })) ∧
  ((∀ s : State, s.link.resetTaken = false ∨ s.ctrl.tx ≠ none ∨ s.xfer.pair ≠ none →
      exec .bridgeResetComplete s = .next s) ∧
    (∀ s : State, s.link.resetTaken = true → s.ctrl.tx = none → s.xfer.pair = none →
      ∃ t, exec .bridgeResetComplete s = .next t ∧
        t = { s with link := t.link, arb := t.arb, sup := t.sup, notices := t.notices, hold := {}
                     inb := { nextNumber := s.inb.nextNumber }, faults := { s.faults with entries := [] }
                     modules := Vector.replicate 16 .unlocked } ∧
        t.arb.holder = none ∧ t.arb.turn = 0 ∧ (s.xfer.queue = [] → t.arb.choice = none) ∧ t.sup.work = [] ∧
        (∀ i, (s.slot i).state = .off → t.slot i = { s.slot i with enrollReply := none }) ∧
        (∀ i, (s.slot i).state ≠ .off → t.slot i = { s.slot i with
          state := .resetting, lastCause := .reset, timer := some { kind := .pulse, ms := s.params.slotResetPulse }
          step := .none, held := none, lag := 0, skip := 0, silence := 0, attempts := 0, attemptCause := none
          faultCause := none, enrollReply := none }) ∧
        t.notices = { s.notices with holdEnd := none, slotPending :=
          if s.notices.slotEnabled = true then Vector.replicate 16 true else s.notices.slotPending } ∧
        t.link = { s.link with
          resetTaken := false, phase := if s.link.phase = .brk then .brk else .opened
          linkUp := if s.link.linkUp = some .powerOn then some .powerOn else some .bridge }))

/-- R177, R126, R131, R112: a break begins in OPEN or RESET_WAIT. The session ends, the link's queues are empty,
credits are 0, and all SLOT_STATE notices are pending; a frame on the line is cut off, and LINK_UP, FAULT or HOLD_END is
pending again by its source (R160; R175 merges the kinds of LINK_UP); the other blocks stand as they are. R126: a
pending acquire is dropped; a HELD hold ends at once with no cycle in progress, and otherwise goes on with cause BREAK
until its cycle ends. The replies such an end queues are suppressed but for a request of the session that has just
begun, and there is none yet (R172). Where the OK of a BRIDGE_RESET is owed, the bridge reset is taken in the same event
(R177 step 6, R178): the session rises once more, and windows, pages and the transfer queue are reset. What counts as
an OK owed is the model's reading (log 21). R166: the end of a break. The phase is RESET_WAIT while a bridge reset is
taken and OPEN otherwise; nothing else changes, and outside BREAK no break ends (log 3). -/
def Obligations.Breaks : Prop :=
  ((∀ s : State, s.link.phase = .brk → exec .breakBegin s = .next s) ∧
    (∀ (s : State) (owed : Bool), s.link.phase ≠ .brk →
      (owed = true ↔
        (∃ r ∈ s.link.replies, r.kind = Kind.bridgeReset ∧ r.status = .ok ∧ r.resend = false) ∨
        ∃ f r, s.link.transmitter = some (f, .reply r) ∧
          r.kind = Kind.bridgeReset ∧ r.status = .ok ∧ r.resend = false) →
      ∃ t, exec .breakBegin s = .next t ∧
        t = { s with link := t.link, arb := t.arb, notices := t.notices, hold := t.hold, faults := t.faults
                     inb := { s.inb with credits := 0 }, pins := { s.pins with rxLow := true }
                     windows := if owed = true then Vector.replicate 8 {} else s.windows
                     pages := if owed = true then Vector.replicate 2048 {} else s.pages
                     xfer := if owed = true then
                         { queue := [], postedFailures := 0, pair := s.xfer.pair.map fun p => { p with entry := none } }
                       else s.xfer } ∧
        t.link = { s.link with
          phase := .brk, framer := .hunt, lowRun := 0, unreplied := [], replies := t.link.replies, cache := []
          overload := none
          transmitter := none, linkUp := t.link.linkUp, resetTaken := owed || s.link.resetTaken
          session := s.link.session + (if owed = true then 2 else 1) } ∧
        (owed = true ∨ s.hold.state ≠ .held ∨ s.hold.cycle ≠ none → t.link.replies = []) ∧
        (owed = false → s.hold.state = .held → s.hold.cycle = none → t.link.replies =
          ((s.hold.cycles.filter fun c => c.req.session = s.link.session + 1).map fun c =>
            { seq := c.req.seq, kind := c.req.kind, crc := c.req.crc, status := .notHeld, body := [], resend := false }) ++
          (match s.hold.releaseReply with
           | some r => if r.session = s.link.session + 1 then
               [{ seq := r.seq, kind := r.kind, crc := r.crc, status := .ok, body := [], resend := false }] else []
           | none => [])) ∧
        (s.link.linkUp = none → (∀ f k, s.link.transmitter ≠ some (f, .linkUp k)) → t.link.linkUp = some .brk) ∧
        (∀ k, s.link.linkUp = some k → (∀ f k, s.link.transmitter ≠ some (f, .linkUp k)) → t.link.linkUp = some k) ∧
        (∀ f k, s.link.linkUp = none → s.link.transmitter = some (f, .linkUp k) → t.link.linkUp = some k) ∧
        (∀ f j k, s.link.linkUp = some j → s.link.transmitter = some (f, .linkUp k) → t.link.linkUp = some
          (if j = .powerOn ∨ k = .powerOn then .powerOn else if j = .bridge ∨ k = .bridge then .bridge else .brk)) ∧
        (s.hold.state ≠ .held ∨ s.hold.cycle ≠ none → t.arb.holder = s.arb.holder) ∧
        (s.hold.state = .held → s.hold.cycle = none → t.arb.holder = none) ∧
        (s.hold.state = .idle → t.hold = { s.hold with limitTimer := if owed = true then none else s.hold.limitTimer }) ∧
        (s.hold.state = .pending → t.hold = { s.hold with
          state := .idle, acquire := none, limit := none
          limitTimer := if owed = true then none else s.hold.limitTimer }) ∧
        (s.hold.state = .held → s.hold.cycle = none → t.hold = { s.hold with
          state := .idle, limit := none, limitTimer := none, endCause := none, releaseReply := none, cycles := [] }) ∧
        (s.hold.state = .held → s.hold.cycle ≠ none →
          t.hold = { s.hold with limitTimer := none, endCause := some .brk }) ∧
        t.notices = { s.notices with
          slotPending := if s.notices.slotEnabled = true then Vector.replicate 16 true else s.notices.slotPending
          holdEnd := t.notices.holdEnd } ∧
        (∀ f n, s.link.transmitter = some (f, .holdEnd n false) → s.notices.holdEnabled = true →
          t.notices.holdEnd = some n) ∧
        ((∀ f n, s.link.transmitter ≠ some (f, .holdEnd n false)) ∨ s.notices.holdEnabled = false →
          t.notices.holdEnd = s.notices.holdEnd) ∧
        (∀ f n, s.link.transmitter = some (f, .fault n) → s.notices.faultEnabled = true →
          t.faults = s.faults.mark n true) ∧
        ((∀ f n, s.link.transmitter ≠ some (f, .fault n)) ∨ s.notices.faultEnabled = false → t.faults = s.faults))) ∧
  (∀ s : State,
      (s.link.phase = .brk → exec .breakEnd s = .next { s with
        link := { s.link with phase := if s.link.resetTaken = true then .resetWait else .opened }
        pins := { s.pins with rxLow := false } }) ∧
      (s.link.phase ≠ .brk → exec .breakEnd s = .next s))

/-- R3, R20, R51, R73, R80, R85, R114, R131, R153, R161, R162, R165, R176: power-on from any state, with the pins at
the levels sampled. Only the commands waiting in the queue, the model's own field, are kept (log 2). -/
def Obligations.PowerOn : Prop :=
  ∀ (pins : PowerPins) (s : State), ∃ t, exec (.powerOn pins) s = .next t ∧
    t = { State.reset with pins := t.pins, link := t.link, sup := t.sup, pending := s.pending } ∧
    t.link = {
      phase := if pins.rxLow = true then .brk else .opened
      rate := if pins.rateB = true then (if pins.rateA = true then .baud6000000 else .baud3000000)
              else if pins.rateA = true then .baud1000000 else .baud115200
      resetTaken := false, session := 0, framer := .hunt, lowRun := 0, unreplied := [], replies := [], cache := []
      overload := none, linkUp := some .powerOn, noticeCounter := 0, transmitter := none } ∧
    t.params.responseTimeout = 200 ∧ t.params.retryLimit = 8 ∧ t.params.retryDelay = 100 ∧ t.params.inboundTurn = 4 ∧
    t.params.settleTime = 250 ∧ t.params.autoEnroll = true ∧ t.params.enrollAttempts = 3 ∧
    t.params.checkInterval = 100 ∧ t.params.skipAllowance = 2 ∧ t.params.lagLimit = 3 ∧ t.params.silenceLimit = 4 ∧
    t.params.slotResetPulse = 10 ∧ t.params.holdLimit = 500 ∧
    t.faults = { entries := [], next := 1, given := false } ∧ t.stamp = 0 ∧ t.sup.work = [] ∧
    t.xfer = { queue := [], postedFailures := 0, pair := none } ∧ t.ctrl.tx = none ∧
    t.arb.holder = none ∧ t.arb.turn = 0 ∧ t.arb.choice = none ∧
    t.arb.waiting = { hold := false, supervise := false, transfer := false, inbound := false } ∧
    t.hold = { state := .idle, acquire := none, limit := none, limitTimer := none, endCause := none
               releaseReply := none, cycle := none, cycles := [] } ∧
    t.inb.posts = [] ∧ t.inb.reserved = 0 ∧ t.inb.service = none ∧ t.inb.pointer = 0 ∧ t.inb.credits = 0 ∧
    t.inb.nextNumber = 0 ∧
    t.notices.slotEnabled = true ∧ t.notices.faultEnabled = true ∧ t.notices.holdEnabled = true ∧
    t.notices.holdEnd = none ∧
    t.pins.rateA = pins.rateA ∧ t.pins.rateB = pins.rateB ∧ t.pins.rxLow = pins.rxLow ∧
    (∀ i : SlotId, t.notices.slotPending[i] = true ∧ t.inb.masked[i] = false ∧ t.inb.backOff[i] = none ∧
      t.inb.roomWait[i] = none ∧ t.modules[i] = .unlocked ∧
      t.pins.presence[i] = pins.presence.getLsbD i.val ∧ t.pins.attention[i] = pins.attention.getLsbD i.val ∧
      t.slot i = {
        state := if pins.presence.getLsbD i.val = true then .settling else .empty
        timer := if pins.presence.getLsbD i.val = true then some { kind := .settle, ms := 250 } else none
        epoch := 0, descriptor := none, heartbeat := 0, lag := 0, skip := 0, silence := 0, attempts := 0
        attemptCause := none, faultCause := none, lastCause := .on, step := .none, held := none
        enrollReply := none }) ∧
    (∀ w, (t.window w).state = .disabled ∧ (t.window w).useCount = 0 ∧ (t.window w).clearReply = none) ∧
    (∀ i, t.page i = { valid := false, slot := 0, frame := 0, access := .readWrite, referenced := false
                       written := false })

/-! ### What every command keeps -/

/-- R2, R4, R7, R12, R15, R20, R23, R29, R36: every command keeps the laws of the window table, the transfer queue
and the page map. -/
def Obligations.WindowAndPageLawsKept : Prop :=
  ∀ s t : State, step s = .next t → (s.WindowLaw → t.WindowLaw) ∧ (s.PageLaw → t.PageLaw)

/-- R145, R148, R151, R153, R157 to R161, R181: every command keeps the laws of the fault list and the notice unit,
and of the credits and parameters. -/
def Obligations.FaultAndCountLawsKept : Prop :=
  ∀ s t : State, step s = .next t → (s.FaultLaw → t.FaultLaw) ∧ (s.CountLaw → t.CountLaw)

/-- R166, R169, R170, R173, R178: every command keeps the laws of the host link: at most 8 unreplied requests and 8
cache entries, no two of one sequence; the receive line low for less than two character times outside BREAK, by the
model's own count (log 32). -/
def Obligations.LinkLawKept : Prop := ∀ s t : State, s.LinkLaw → step s = .next t → t.LinkLaw

/-- R84, R86, R91, R93, R94, R96: every command keeps the law of the slot records and the work list. -/
def Obligations.SlotLawKept : Prop := ∀ s t : State, s.SlotLaw → step s = .next t → t.SlotLaw

/-- R63, R73 to R77, R114, R121: every command keeps the laws of the grant and of the hold unit: a transaction runs
only under its requester's grant, and the hold unit is HELD exactly while HOLD holds it. The clauses on the standing
choice (free, chosen, busy, pending, turnRoom) rest on the model's choice to latch it and to make the grant a step of
its own (log 4). -/
def Obligations.GrantAndHoldLawsKept : Prop :=
  ∀ s t : State, step s = .next t →
    (s.CountLaw → s.GrantLaw → t.GrantLaw) ∧ (s.HoldLaw → t.HoldLaw)

/-- R128, R129, R136 to R139: every command keeps the law of the post queue and the staging store. -/
def Obligations.PostLawKept : Prop :=
  ∀ s t : State, s.GrantLaw → s.PostLaw → step s = .next t → t.PostLaw

/-- The state after power-on meets every law. Its pin levels are the model's choice (log 1). -/
def Obligations.ResetMeetsLaws : Prop :=
  State.reset.WindowLaw ∧ State.reset.PageLaw ∧ State.reset.CountLaw ∧ State.reset.FaultLaw ∧ State.reset.LinkLaw ∧
  State.reset.SlotLaw ∧ State.reset.GrantLaw ∧ State.reset.HoldLaw ∧ State.reset.PostLaw
end

