-- ==== Sys2Proof/Laws/State.lean ====
section
/-! SUPPORT. Reading a record after it, or another, has been written: one lemma per record kind and per field of State,
so that no later proof unfolds an update. -/

namespace Sys2Proof.Machine

/-! ### What an update leaves as it was -/

@[simp] theorem modifySlot_frame (s : State) (i : SlotId) (f : Slot → Slot) :
    (s.modifySlot i f).pins = s.pins ∧ (s.modifySlot i f).link = s.link ∧ (s.modifySlot i f).windows = s.windows ∧
    (s.modifySlot i f).pages = s.pages ∧ (s.modifySlot i f).xfer = s.xfer ∧ (s.modifySlot i f).ctrl = s.ctrl ∧
    (s.modifySlot i f).arb = s.arb ∧ (s.modifySlot i f).hold = s.hold ∧ (s.modifySlot i f).inb = s.inb ∧
    (s.modifySlot i f).faults = s.faults ∧ (s.modifySlot i f).notices = s.notices ∧
    (s.modifySlot i f).params = s.params ∧ (s.modifySlot i f).stamp = s.stamp ∧
    (s.modifySlot i f).modules = s.modules ∧ (s.modifySlot i f).pending = s.pending ∧
    (s.modifySlot i f).sup.work = s.sup.work :=
  ⟨rfl, rfl, rfl, rfl, rfl, rfl, rfl, rfl, rfl, rfl, rfl, rfl, rfl, rfl, rfl, rfl⟩

@[simp] theorem setWindow_frame (s : State) (w : WindowId) (r : Window) :
    (s.setWindow w r).pins = s.pins ∧ (s.setWindow w r).link = s.link ∧ (s.setWindow w r).pages = s.pages ∧
    (s.setWindow w r).xfer = s.xfer ∧ (s.setWindow w r).ctrl = s.ctrl ∧ (s.setWindow w r).arb = s.arb ∧
    (s.setWindow w r).sup = s.sup ∧ (s.setWindow w r).hold = s.hold ∧ (s.setWindow w r).inb = s.inb ∧
    (s.setWindow w r).faults = s.faults ∧ (s.setWindow w r).notices = s.notices ∧
    (s.setWindow w r).params = s.params ∧ (s.setWindow w r).stamp = s.stamp ∧
    (s.setWindow w r).modules = s.modules ∧ (s.setWindow w r).pending = s.pending :=
  ⟨rfl, rfl, rfl, rfl, rfl, rfl, rfl, rfl, rfl, rfl, rfl, rfl, rfl, rfl, rfl⟩

@[simp] theorem setPage_frame (s : State) (i : Nat) (e : PageEntry) :
    (s.setPage i e).pins = s.pins ∧ (s.setPage i e).link = s.link ∧ (s.setPage i e).windows = s.windows ∧
    (s.setPage i e).xfer = s.xfer ∧ (s.setPage i e).ctrl = s.ctrl ∧ (s.setPage i e).arb = s.arb ∧
    (s.setPage i e).sup = s.sup ∧ (s.setPage i e).hold = s.hold ∧ (s.setPage i e).inb = s.inb ∧
    (s.setPage i e).faults = s.faults ∧ (s.setPage i e).notices = s.notices ∧ (s.setPage i e).params = s.params ∧
    (s.setPage i e).stamp = s.stamp ∧ (s.setPage i e).modules = s.modules ∧ (s.setPage i e).pending = s.pending :=
  ⟨rfl, rfl, rfl, rfl, rfl, rfl, rfl, rfl, rfl, rfl, rfl, rfl, rfl, rfl, rfl⟩

/-! ### Slot records -/

@[simp] theorem modifySlot_slot_self (s : State) (i : SlotId) (f : Slot → Slot) :
    (s.modifySlot i f).slot i = f (s.slot i) := by
  simp [State.modifySlot, State.slot]

theorem modifySlot_slot_of_ne (s : State) {i j : SlotId} (f : Slot → Slot) (h : i ≠ j) :
    (s.modifySlot i f).slot j = s.slot j := by
  have h' : i.val ≠ j.val := fun e => h (Fin.ext e)
  simp [State.modifySlot, State.slot, Vector.getElem_set_ne _ _ h']

/-- A slot's record depends on the slot records alone. -/
theorem slot_eq_of_slots_eq {s t : State} (h : s.sup.slots = t.sup.slots) (i : SlotId) : s.slot i = t.slot i := by
  simp [State.slot, h]

/-! ### Window records -/

@[simp] theorem setWindow_window_self (s : State) (w : WindowId) (r : Window) : (s.setWindow w r).window w = r := by
  simp [State.setWindow, State.window]

theorem setWindow_window_of_ne (s : State) {w v : WindowId} (r : Window) (h : w ≠ v) :
    (s.setWindow w r).window v = s.window v := by
  have h' : w.val ≠ v.val := fun e => h (Fin.ext e)
  simp [State.setWindow, State.window, Vector.getElem_set_ne _ _ h']

@[simp] theorem modifySlot_window (s : State) (i : SlotId) (f : Slot → Slot) (w : WindowId) :
    (s.modifySlot i f).window w = s.window w := rfl

@[simp] theorem setWindow_slot (s : State) (w : WindowId) (r : Window) (i : SlotId) :
    (s.setWindow w r).slot i = s.slot i := rfl

/-! ### Page entries -/

theorem setPage_page_self (s : State) {i : Nat} (e : PageEntry) (h : i < 2048) : (s.setPage i e).page i = e := by
  simp [State.setPage, State.page, Vector.getD, Vector.setIfInBounds, Array.getD, h]

theorem setPage_page_of_ne (s : State) {i j : Nat} (e : PageEntry) (h : i ≠ j) :
    (s.setPage i e).page j = s.page j := by
  simp [State.setPage, State.page, Vector.getD, Vector.setIfInBounds, Array.getD]
  split
  · next hj => exact Array.getElem_setIfInBounds_ne (xs := s.pages.toArray) (a := e) (by simpa using hj) h
  · rfl

@[simp] theorem setPage_slot (s : State) (n : Nat) (e : PageEntry) (i : SlotId) :
    (s.setPage n e).slot i = s.slot i := rfl

@[simp] theorem setPage_window (s : State) (n : Nat) (e : PageEntry) (w : WindowId) :
    (s.setPage n e).window w = s.window w := rfl

end Sys2Proof.Machine
end

