-- ==== Sys2Proof/Laws/Ops.lean ====
section
/-! SUPPORT. The shared operations: what each leaves as it was (`_frame`), and what each does. -/

namespace Sys2Proof.Machine

/-! ### What the shared operations leave as it was -/

@[simp] theorem queueReply_frame (r : ReqId) (st : Status) (body : List Byte) (s : State) :
    (queueReply r st body s).pins = s.pins ∧ (queueReply r st body s).windows = s.windows ∧
    (queueReply r st body s).pages = s.pages ∧ (queueReply r st body s).xfer = s.xfer ∧
    (queueReply r st body s).ctrl = s.ctrl ∧ (queueReply r st body s).arb = s.arb ∧
    (queueReply r st body s).sup = s.sup ∧ (queueReply r st body s).hold = s.hold ∧
    (queueReply r st body s).inb = s.inb ∧ (queueReply r st body s).faults = s.faults ∧
    (queueReply r st body s).notices = s.notices ∧ (queueReply r st body s).params = s.params ∧
    (queueReply r st body s).stamp = s.stamp ∧ (queueReply r st body s).modules = s.modules ∧
    (queueReply r st body s).pending = s.pending ∧ (queueReply r st body s).link.phase = s.link.phase ∧
    (queueReply r st body s).link.resetTaken = s.link.resetTaken ∧
    (queueReply r st body s).link.session = s.link.session ∧ (queueReply r st body s).link.framer = s.link.framer ∧
    (queueReply r st body s).link.lowRun = s.link.lowRun ∧
    (queueReply r st body s).link.unreplied = s.link.unreplied ∧
    (queueReply r st body s).link.cache = s.link.cache ∧ (queueReply r st body s).link.overload = s.link.overload ∧
    (queueReply r st body s).link.linkUp = s.link.linkUp ∧
    (queueReply r st body s).link.noticeCounter = s.link.noticeCounter ∧
    (queueReply r st body s).link.transmitter = s.link.transmitter ∧
    (queueReply r st body s).link.rate = s.link.rate := by
  refine ⟨?_, ?_, ?_, ?_, ?_, ?_, ?_, ?_, ?_, ?_, ?_, ?_, ?_, ?_, ?_, ?_, ?_, ?_, ?_, ?_, ?_, ?_, ?_, ?_, ?_, ?_, ?_⟩ <;>
    (simp only [queueReply]; split <;> simp)

@[simp] theorem queueReplies_frame (rs : List ReqId) (st : Status) (body : List Byte) (s : State) :
    (queueReplies rs st body s).pins = s.pins ∧ (queueReplies rs st body s).windows = s.windows ∧
    (queueReplies rs st body s).pages = s.pages ∧ (queueReplies rs st body s).xfer = s.xfer ∧
    (queueReplies rs st body s).ctrl = s.ctrl ∧ (queueReplies rs st body s).arb = s.arb ∧
    (queueReplies rs st body s).sup = s.sup ∧ (queueReplies rs st body s).hold = s.hold ∧
    (queueReplies rs st body s).inb = s.inb ∧ (queueReplies rs st body s).faults = s.faults ∧
    (queueReplies rs st body s).notices = s.notices ∧ (queueReplies rs st body s).params = s.params ∧
    (queueReplies rs st body s).stamp = s.stamp ∧ (queueReplies rs st body s).modules = s.modules ∧
    (queueReplies rs st body s).pending = s.pending ∧ (queueReplies rs st body s).link.phase = s.link.phase ∧
    (queueReplies rs st body s).link.resetTaken = s.link.resetTaken ∧
    (queueReplies rs st body s).link.session = s.link.session ∧
    (queueReplies rs st body s).link.framer = s.link.framer ∧
    (queueReplies rs st body s).link.lowRun = s.link.lowRun ∧
    (queueReplies rs st body s).link.unreplied = s.link.unreplied ∧
    (queueReplies rs st body s).link.cache = s.link.cache ∧
    (queueReplies rs st body s).link.overload = s.link.overload ∧
    (queueReplies rs st body s).link.linkUp = s.link.linkUp ∧
    (queueReplies rs st body s).link.noticeCounter = s.link.noticeCounter ∧
    (queueReplies rs st body s).link.transmitter = s.link.transmitter ∧
    (queueReplies rs st body s).link.rate = s.link.rate := by
  induction rs generalizing s with
  | nil => simp [queueReplies]
  | cons r rs ih => simpa [queueReplies] using ih (queueReply r st body s)

@[simp] theorem queueOwed_frame (r : Option ReqId) (st : Status) (body : List Byte) (s : State) :
    (queueOwed r st body s).pins = s.pins ∧ (queueOwed r st body s).windows = s.windows ∧
    (queueOwed r st body s).pages = s.pages ∧ (queueOwed r st body s).xfer = s.xfer ∧
    (queueOwed r st body s).ctrl = s.ctrl ∧ (queueOwed r st body s).arb = s.arb ∧
    (queueOwed r st body s).sup = s.sup ∧ (queueOwed r st body s).hold = s.hold ∧
    (queueOwed r st body s).inb = s.inb ∧ (queueOwed r st body s).faults = s.faults ∧
    (queueOwed r st body s).notices = s.notices ∧ (queueOwed r st body s).params = s.params ∧
    (queueOwed r st body s).stamp = s.stamp ∧ (queueOwed r st body s).modules = s.modules ∧
    (queueOwed r st body s).pending = s.pending ∧ (queueOwed r st body s).link.phase = s.link.phase ∧
    (queueOwed r st body s).link.resetTaken = s.link.resetTaken ∧
    (queueOwed r st body s).link.session = s.link.session ∧ (queueOwed r st body s).link.framer = s.link.framer ∧
    (queueOwed r st body s).link.lowRun = s.link.lowRun ∧
    (queueOwed r st body s).link.unreplied = s.link.unreplied ∧ (queueOwed r st body s).link.cache = s.link.cache ∧
    (queueOwed r st body s).link.overload = s.link.overload ∧ (queueOwed r st body s).link.linkUp = s.link.linkUp ∧
    (queueOwed r st body s).link.noticeCounter = s.link.noticeCounter ∧
    (queueOwed r st body s).link.transmitter = s.link.transmitter ∧ (queueOwed r st body s).link.rate = s.link.rate := by
  refine ⟨?_, ?_, ?_, ?_, ?_, ?_, ?_, ?_, ?_, ?_, ?_, ?_, ?_, ?_, ?_, ?_, ?_, ?_, ?_, ?_, ?_, ?_, ?_, ?_, ?_, ?_, ?_⟩ <;>
    (simp only [queueOwed]; split <;> simp)

@[simp] theorem makeRecord_frame (r : FaultRecord) (s : State) :
    (makeRecord r s).pins = s.pins ∧ (makeRecord r s).windows = s.windows ∧ (makeRecord r s).pages = s.pages ∧
    (makeRecord r s).xfer = s.xfer ∧ (makeRecord r s).ctrl = s.ctrl ∧ (makeRecord r s).arb = s.arb ∧
    (makeRecord r s).sup = s.sup ∧ (makeRecord r s).hold = s.hold ∧ (makeRecord r s).inb = s.inb ∧
    (makeRecord r s).notices = s.notices ∧ (makeRecord r s).params = s.params ∧ (makeRecord r s).stamp = s.stamp ∧
    (makeRecord r s).modules = s.modules ∧ (makeRecord r s).pending = s.pending ∧ (makeRecord r s).link = s.link :=
  ⟨rfl, rfl, rfl, rfl, rfl, rfl, rfl, rfl, rfl, rfl, rfl, rfl, rfl, rfl, rfl⟩

@[simp] theorem noteSlot_frame (i : SlotId) (s : State) :
    (noteSlot i s).pins = s.pins ∧ (noteSlot i s).windows = s.windows ∧ (noteSlot i s).pages = s.pages ∧
    (noteSlot i s).xfer = s.xfer ∧ (noteSlot i s).ctrl = s.ctrl ∧ (noteSlot i s).arb = s.arb ∧
    (noteSlot i s).sup = s.sup ∧ (noteSlot i s).hold = s.hold ∧ (noteSlot i s).inb = s.inb ∧
    (noteSlot i s).faults = s.faults ∧ (noteSlot i s).params = s.params ∧ (noteSlot i s).stamp = s.stamp ∧
    (noteSlot i s).modules = s.modules ∧ (noteSlot i s).pending = s.pending ∧ (noteSlot i s).link = s.link ∧
    (noteSlot i s).notices.holdEnd = s.notices.holdEnd ∧
    (noteSlot i s).notices.slotEnabled = s.notices.slotEnabled ∧
    (noteSlot i s).notices.faultEnabled = s.notices.faultEnabled ∧
    (noteSlot i s).notices.holdEnabled = s.notices.holdEnabled := by
  refine ⟨?_, ?_, ?_, ?_, ?_, ?_, ?_, ?_, ?_, ?_, ?_, ?_, ?_, ?_, ?_, ?_, ?_, ?_, ?_⟩ <;>
    (simp only [noteSlot]; split <;> simp)

@[simp] theorem noteAllSlots_frame (s : State) :
    (noteAllSlots s).pins = s.pins ∧ (noteAllSlots s).windows = s.windows ∧ (noteAllSlots s).pages = s.pages ∧
    (noteAllSlots s).xfer = s.xfer ∧ (noteAllSlots s).ctrl = s.ctrl ∧ (noteAllSlots s).arb = s.arb ∧
    (noteAllSlots s).sup = s.sup ∧ (noteAllSlots s).hold = s.hold ∧ (noteAllSlots s).inb = s.inb ∧
    (noteAllSlots s).faults = s.faults ∧ (noteAllSlots s).params = s.params ∧ (noteAllSlots s).stamp = s.stamp ∧
    (noteAllSlots s).modules = s.modules ∧ (noteAllSlots s).pending = s.pending ∧ (noteAllSlots s).link = s.link ∧
    (noteAllSlots s).notices.holdEnd = s.notices.holdEnd ∧
    (noteAllSlots s).notices.slotEnabled = s.notices.slotEnabled ∧
    (noteAllSlots s).notices.faultEnabled = s.notices.faultEnabled ∧
    (noteAllSlots s).notices.holdEnabled = s.notices.holdEnabled := by
  refine ⟨?_, ?_, ?_, ?_, ?_, ?_, ?_, ?_, ?_, ?_, ?_, ?_, ?_, ?_, ?_, ?_, ?_, ?_, ?_⟩ <;>
    (simp only [noteAllSlots]; split <;> simp)

@[simp] theorem noteHoldEnd_frame (limit : Nat) (s : State) :
    (noteHoldEnd limit s).pins = s.pins ∧ (noteHoldEnd limit s).windows = s.windows ∧
    (noteHoldEnd limit s).pages = s.pages ∧ (noteHoldEnd limit s).xfer = s.xfer ∧
    (noteHoldEnd limit s).ctrl = s.ctrl ∧ (noteHoldEnd limit s).arb = s.arb ∧ (noteHoldEnd limit s).sup = s.sup ∧
    (noteHoldEnd limit s).hold = s.hold ∧ (noteHoldEnd limit s).inb = s.inb ∧
    (noteHoldEnd limit s).faults = s.faults ∧ (noteHoldEnd limit s).params = s.params ∧
    (noteHoldEnd limit s).stamp = s.stamp ∧ (noteHoldEnd limit s).modules = s.modules ∧
    (noteHoldEnd limit s).pending = s.pending ∧ (noteHoldEnd limit s).link.phase = s.link.phase ∧
    (noteHoldEnd limit s).link.resetTaken = s.link.resetTaken ∧
    (noteHoldEnd limit s).link.session = s.link.session ∧ (noteHoldEnd limit s).link.framer = s.link.framer ∧
    (noteHoldEnd limit s).link.lowRun = s.link.lowRun ∧
    (noteHoldEnd limit s).link.unreplied = s.link.unreplied ∧ (noteHoldEnd limit s).link.replies = s.link.replies ∧
    (noteHoldEnd limit s).link.cache = s.link.cache ∧ (noteHoldEnd limit s).link.overload = s.link.overload ∧
    (noteHoldEnd limit s).link.linkUp = s.link.linkUp ∧
    (noteHoldEnd limit s).link.noticeCounter = s.link.noticeCounter ∧
    (noteHoldEnd limit s).link.rate = s.link.rate ∧
    (noteHoldEnd limit s).notices.slotPending = s.notices.slotPending ∧
    (noteHoldEnd limit s).notices.slotEnabled = s.notices.slotEnabled ∧
    (noteHoldEnd limit s).notices.faultEnabled = s.notices.faultEnabled ∧
    (noteHoldEnd limit s).notices.holdEnabled = s.notices.holdEnabled := by
  refine ⟨?_, ?_, ?_, ?_, ?_, ?_, ?_, ?_, ?_, ?_, ?_, ?_, ?_, ?_, ?_, ?_, ?_, ?_, ?_, ?_, ?_, ?_, ?_, ?_, ?_, ?_, ?_, ?_, ?_, ?_⟩ <;> (unfold noteHoldEnd Link.holdEndSetAgain; (repeat' split) <;> rfl)

@[simp] theorem changeState_frame (i : SlotId) (st : SlotState) (cause : LastCause) (s : State) :
    (changeState i st cause s).pins = s.pins ∧ (changeState i st cause s).windows = s.windows ∧
    (changeState i st cause s).pages = s.pages ∧ (changeState i st cause s).xfer = s.xfer ∧
    (changeState i st cause s).ctrl = s.ctrl ∧ (changeState i st cause s).arb = s.arb ∧
    (changeState i st cause s).hold = s.hold ∧ (changeState i st cause s).faults = s.faults ∧
    (changeState i st cause s).params = s.params ∧ (changeState i st cause s).stamp = s.stamp ∧
    (changeState i st cause s).modules = s.modules ∧ (changeState i st cause s).pending = s.pending ∧
    (changeState i st cause s).link = s.link ∧ (changeState i st cause s).sup.work = s.sup.work ∧
    (changeState i st cause s).inb.posts = s.inb.posts ∧ (changeState i st cause s).inb.reserved = s.inb.reserved ∧
    (changeState i st cause s).inb.service = s.inb.service ∧
    (changeState i st cause s).inb.pointer = s.inb.pointer ∧
    (changeState i st cause s).inb.credits = s.inb.credits ∧ (changeState i st cause s).inb.masked = s.inb.masked ∧
    (changeState i st cause s).inb.nextNumber = s.inb.nextNumber ∧
    (changeState i st cause s).notices.holdEnd = s.notices.holdEnd ∧
    (changeState i st cause s).notices.slotEnabled = s.notices.slotEnabled ∧
    (changeState i st cause s).notices.faultEnabled = s.notices.faultEnabled ∧
    (changeState i st cause s).notices.holdEnabled = s.notices.holdEnabled := by
  refine ⟨?_, ?_, ?_, ?_, ?_, ?_, ?_, ?_, ?_, ?_, ?_, ?_, ?_, ?_, ?_, ?_, ?_, ?_, ?_, ?_, ?_, ?_, ?_, ?_, ?_⟩ <;>
    (simp only [changeState]; split <;> simp)

@[simp] theorem dropItems_frame (i : SlotId) (s : State) :
    (dropItems i s).pins = s.pins ∧ (dropItems i s).windows = s.windows ∧ (dropItems i s).pages = s.pages ∧
    (dropItems i s).xfer = s.xfer ∧ (dropItems i s).ctrl = s.ctrl ∧ (dropItems i s).arb = s.arb ∧
    (dropItems i s).hold = s.hold ∧ (dropItems i s).inb = s.inb ∧ (dropItems i s).faults = s.faults ∧
    (dropItems i s).notices = s.notices ∧ (dropItems i s).params = s.params ∧ (dropItems i s).stamp = s.stamp ∧
    (dropItems i s).modules = s.modules ∧ (dropItems i s).pending = s.pending ∧ (dropItems i s).link = s.link ∧
    (dropItems i s).sup.slots = s.sup.slots :=
  ⟨rfl, rfl, rfl, rfl, rfl, rfl, rfl, rfl, rfl, rfl, rfl, rfl, rfl, rfl, rfl, rfl⟩

@[simp] theorem addItem_frame (i : SlotId) (r : WorkRead) (s : State) :
    (addItem i r s).pins = s.pins ∧ (addItem i r s).windows = s.windows ∧ (addItem i r s).pages = s.pages ∧
    (addItem i r s).xfer = s.xfer ∧ (addItem i r s).ctrl = s.ctrl ∧ (addItem i r s).arb = s.arb ∧
    (addItem i r s).hold = s.hold ∧ (addItem i r s).inb = s.inb ∧ (addItem i r s).faults = s.faults ∧
    (addItem i r s).notices = s.notices ∧ (addItem i r s).params = s.params ∧ (addItem i r s).stamp = s.stamp ∧
    (addItem i r s).modules = s.modules ∧ (addItem i r s).pending = s.pending ∧ (addItem i r s).link = s.link ∧
    (addItem i r s).sup.slots = s.sup.slots :=
  ⟨rfl, rfl, rfl, rfl, rfl, rfl, rfl, rfl, rfl, rfl, rfl, rfl, rfl, rfl, rfl, rfl⟩

@[simp] theorem enrollDown_frame (i : SlotId) (s : State) :
    (enrollDown i s).pins = s.pins ∧ (enrollDown i s).windows = s.windows ∧ (enrollDown i s).pages = s.pages ∧
    (enrollDown i s).xfer = s.xfer ∧ (enrollDown i s).ctrl = s.ctrl ∧ (enrollDown i s).arb = s.arb ∧
    (enrollDown i s).hold = s.hold ∧ (enrollDown i s).inb = s.inb ∧ (enrollDown i s).faults = s.faults ∧
    (enrollDown i s).notices = s.notices ∧ (enrollDown i s).params = s.params ∧ (enrollDown i s).stamp = s.stamp ∧
    (enrollDown i s).modules = s.modules ∧ (enrollDown i s).pending = s.pending ∧
    (enrollDown i s).link.phase = s.link.phase ∧ (enrollDown i s).link.resetTaken = s.link.resetTaken ∧
    (enrollDown i s).link.session = s.link.session ∧ (enrollDown i s).link.framer = s.link.framer ∧
    (enrollDown i s).link.lowRun = s.link.lowRun ∧
    (enrollDown i s).link.unreplied = s.link.unreplied ∧ (enrollDown i s).link.cache = s.link.cache ∧
    (enrollDown i s).link.overload = s.link.overload ∧ (enrollDown i s).link.linkUp = s.link.linkUp ∧
    (enrollDown i s).link.noticeCounter = s.link.noticeCounter ∧
    (enrollDown i s).link.transmitter = s.link.transmitter ∧ (enrollDown i s).link.rate = s.link.rate ∧
    (enrollDown i s).sup.work = s.sup.work := by
  simp [enrollDown]

@[simp] theorem settle_frame (s : State) :
    (settle s).pins = s.pins ∧ (settle s).windows = s.windows ∧ (settle s).pages = s.pages ∧
    (settle s).xfer = s.xfer ∧ (settle s).ctrl = s.ctrl ∧ (settle s).sup = s.sup ∧ (settle s).hold = s.hold ∧
    (settle s).inb = s.inb ∧ (settle s).faults = s.faults ∧ (settle s).notices = s.notices ∧
    (settle s).params = s.params ∧ (settle s).stamp = s.stamp ∧ (settle s).modules = s.modules ∧
    (settle s).pending = s.pending ∧ (settle s).link = s.link ∧ (settle s).arb.holder = s.arb.holder :=
  ⟨rfl, rfl, rfl, rfl, rfl, rfl, rfl, rfl, rfl, rfl, rfl, rfl, rfl, rfl, rfl, rfl⟩

@[simp] theorem takeGrant_frame (r : Requester) (s : State) :
    (takeGrant r s).pins = s.pins ∧ (takeGrant r s).windows = s.windows ∧ (takeGrant r s).pages = s.pages ∧
    (takeGrant r s).xfer = s.xfer ∧ (takeGrant r s).ctrl = s.ctrl ∧ (takeGrant r s).sup = s.sup ∧
    (takeGrant r s).hold = s.hold ∧ (takeGrant r s).inb = s.inb ∧ (takeGrant r s).faults = s.faults ∧
    (takeGrant r s).notices = s.notices ∧ (takeGrant r s).params = s.params ∧ (takeGrant r s).stamp = s.stamp ∧
    (takeGrant r s).modules = s.modules ∧ (takeGrant r s).pending = s.pending ∧ (takeGrant r s).link = s.link :=
  ⟨rfl, rfl, rfl, rfl, rfl, rfl, rfl, rfl, rfl, rfl, rfl, rfl, rfl, rfl, rfl⟩

@[simp] theorem withdrawRequest_frame (r : Requester) (s : State) :
    (withdrawRequest r s).pins = s.pins ∧ (withdrawRequest r s).windows = s.windows ∧
    (withdrawRequest r s).pages = s.pages ∧ (withdrawRequest r s).xfer = s.xfer ∧
    (withdrawRequest r s).ctrl = s.ctrl ∧ (withdrawRequest r s).sup = s.sup ∧ (withdrawRequest r s).hold = s.hold ∧
    (withdrawRequest r s).inb = s.inb ∧ (withdrawRequest r s).faults = s.faults ∧
    (withdrawRequest r s).notices = s.notices ∧ (withdrawRequest r s).params = s.params ∧
    (withdrawRequest r s).stamp = s.stamp ∧ (withdrawRequest r s).modules = s.modules ∧
    (withdrawRequest r s).pending = s.pending ∧ (withdrawRequest r s).link = s.link ∧
    (withdrawRequest r s).arb.holder = s.arb.holder ∧ (withdrawRequest r s).arb.waiting = s.arb.waiting ∧
    (withdrawRequest r s).arb.turn = s.arb.turn :=
  ⟨rfl, rfl, rfl, rfl, rfl, rfl, rfl, rfl, rfl, rfl, rfl, rfl, rfl, rfl, rfl, rfl, rfl, rfl⟩

@[simp] theorem returnGrant_frame (s : State) :
    (returnGrant s).pins = s.pins ∧ (returnGrant s).windows = s.windows ∧ (returnGrant s).pages = s.pages ∧
    (returnGrant s).xfer = s.xfer ∧ (returnGrant s).ctrl = s.ctrl ∧ (returnGrant s).sup = s.sup ∧
    (returnGrant s).hold = s.hold ∧ (returnGrant s).inb = s.inb ∧ (returnGrant s).faults = s.faults ∧
    (returnGrant s).notices = s.notices ∧ (returnGrant s).params = s.params ∧ (returnGrant s).stamp = s.stamp ∧
    (returnGrant s).modules = s.modules ∧ (returnGrant s).pending = s.pending ∧ (returnGrant s).link = s.link ∧
    (returnGrant s).arb.waiting = s.arb.waiting ∧ (returnGrant s).arb.turn = s.arb.turn ∧
    (returnGrant s).arb.choice = s.arb.choice :=
  ⟨rfl, rfl, rfl, rfl, rfl, rfl, rfl, rfl, rfl, rfl, rfl, rfl, rfl, rfl, rfl, rfl, rfl, rfl⟩

@[simp] theorem useWindow_frame (w : WindowId) (s : State) :
    (useWindow w s).pins = s.pins ∧ (useWindow w s).pages = s.pages ∧ (useWindow w s).xfer = s.xfer ∧
    (useWindow w s).ctrl = s.ctrl ∧ (useWindow w s).arb = s.arb ∧ (useWindow w s).sup = s.sup ∧
    (useWindow w s).hold = s.hold ∧ (useWindow w s).inb = s.inb ∧ (useWindow w s).faults = s.faults ∧
    (useWindow w s).notices = s.notices ∧ (useWindow w s).params = s.params ∧ (useWindow w s).stamp = s.stamp ∧
    (useWindow w s).modules = s.modules ∧ (useWindow w s).pending = s.pending ∧ (useWindow w s).link = s.link :=
  ⟨rfl, rfl, rfl, rfl, rfl, rfl, rfl, rfl, rfl, rfl, rfl, rfl, rfl, rfl, rfl⟩

@[simp] theorem drainEnd_frame (w : WindowId) (s : State) :
    (drainEnd w s).pins = s.pins ∧ (drainEnd w s).pages = s.pages ∧ (drainEnd w s).xfer = s.xfer ∧
    (drainEnd w s).ctrl = s.ctrl ∧ (drainEnd w s).arb = s.arb ∧ (drainEnd w s).sup = s.sup ∧
    (drainEnd w s).hold = s.hold ∧ (drainEnd w s).inb = s.inb ∧ (drainEnd w s).faults = s.faults ∧
    (drainEnd w s).notices = s.notices ∧ (drainEnd w s).params = s.params ∧ (drainEnd w s).stamp = s.stamp ∧
    (drainEnd w s).modules = s.modules ∧ (drainEnd w s).pending = s.pending ∧
    (drainEnd w s).link.phase = s.link.phase ∧ (drainEnd w s).link.resetTaken = s.link.resetTaken ∧
    (drainEnd w s).link.session = s.link.session ∧ (drainEnd w s).link.framer = s.link.framer ∧
    (drainEnd w s).link.lowRun = s.link.lowRun ∧
    (drainEnd w s).link.unreplied = s.link.unreplied ∧ (drainEnd w s).link.cache = s.link.cache ∧
    (drainEnd w s).link.overload = s.link.overload ∧ (drainEnd w s).link.linkUp = s.link.linkUp ∧
    (drainEnd w s).link.noticeCounter = s.link.noticeCounter ∧
    (drainEnd w s).link.transmitter = s.link.transmitter ∧ (drainEnd w s).link.rate = s.link.rate := by
  refine ⟨?_, ?_, ?_, ?_, ?_, ?_, ?_, ?_, ?_, ?_, ?_, ?_, ?_, ?_, ?_, ?_, ?_, ?_, ?_, ?_, ?_, ?_, ?_, ?_, ?_, ?_⟩ <;>
    (simp only [drainEnd]; split <;> simp)

@[simp] theorem releaseWindow_frame (w : WindowId) (s : State) :
    (releaseWindow w s).pins = s.pins ∧ (releaseWindow w s).pages = s.pages ∧ (releaseWindow w s).xfer = s.xfer ∧
    (releaseWindow w s).ctrl = s.ctrl ∧ (releaseWindow w s).arb = s.arb ∧ (releaseWindow w s).sup = s.sup ∧
    (releaseWindow w s).hold = s.hold ∧ (releaseWindow w s).inb = s.inb ∧ (releaseWindow w s).faults = s.faults ∧
    (releaseWindow w s).notices = s.notices ∧ (releaseWindow w s).params = s.params ∧
    (releaseWindow w s).stamp = s.stamp ∧ (releaseWindow w s).modules = s.modules ∧
    (releaseWindow w s).pending = s.pending ∧ (releaseWindow w s).link.phase = s.link.phase ∧
    (releaseWindow w s).link.resetTaken = s.link.resetTaken ∧ (releaseWindow w s).link.session = s.link.session ∧
    (releaseWindow w s).link.framer = s.link.framer ∧
    (releaseWindow w s).link.lowRun = s.link.lowRun ∧ (releaseWindow w s).link.unreplied = s.link.unreplied ∧
    (releaseWindow w s).link.cache = s.link.cache ∧ (releaseWindow w s).link.overload = s.link.overload ∧
    (releaseWindow w s).link.linkUp = s.link.linkUp ∧
    (releaseWindow w s).link.noticeCounter = s.link.noticeCounter ∧
    (releaseWindow w s).link.transmitter = s.link.transmitter ∧ (releaseWindow w s).link.rate = s.link.rate := by
  simp [releaseWindow]

@[simp] theorem putTx_frame (t : Tx) (s : State) :
    (putTx t s).pins = s.pins ∧ (putTx t s).windows = s.windows ∧ (putTx t s).pages = s.pages ∧
    (putTx t s).xfer = s.xfer ∧ (putTx t s).arb = s.arb ∧ (putTx t s).sup = s.sup ∧ (putTx t s).hold = s.hold ∧
    (putTx t s).inb = s.inb ∧ (putTx t s).faults = s.faults ∧ (putTx t s).notices = s.notices ∧
    (putTx t s).params = s.params ∧ (putTx t s).stamp = s.stamp ∧ (putTx t s).modules = s.modules ∧
    (putTx t s).pending = s.pending ∧ (putTx t s).link = s.link ∧ (putTx t s).ctrl.readCheck = s.ctrl.readCheck :=
  ⟨rfl, rfl, rfl, rfl, rfl, rfl, rfl, rfl, rfl, rfl, rfl, rfl, rfl, rfl, rfl, rfl⟩

@[simp] theorem clearTx_frame (t : Tx) (r : Result) (s : State) :
    (clearTx t r s).pins = s.pins ∧ (clearTx t r s).windows = s.windows ∧ (clearTx t r s).pages = s.pages ∧
    (clearTx t r s).xfer = s.xfer ∧ (clearTx t r s).arb = s.arb ∧ (clearTx t r s).sup = s.sup ∧
    (clearTx t r s).hold = s.hold ∧ (clearTx t r s).inb = s.inb ∧ (clearTx t r s).faults = s.faults ∧
    (clearTx t r s).notices = s.notices ∧ (clearTx t r s).params = s.params ∧ (clearTx t r s).stamp = s.stamp ∧
    (clearTx t r s).pending = s.pending ∧ (clearTx t r s).link = s.link ∧
    (clearTx t r s).ctrl.readCheck = s.ctrl.readCheck :=
  ⟨rfl, rfl, rfl, rfl, rfl, rfl, rfl, rfl, rfl, rfl, rfl, rfl, rfl, rfl, rfl⟩

@[simp] theorem unlockModule_frame (i : SlotId) (s : State) :
    (unlockModule i s).pins = s.pins ∧ (unlockModule i s).windows = s.windows ∧
    (unlockModule i s).pages = s.pages ∧ (unlockModule i s).xfer = s.xfer ∧ (unlockModule i s).ctrl = s.ctrl ∧
    (unlockModule i s).arb = s.arb ∧ (unlockModule i s).sup = s.sup ∧ (unlockModule i s).hold = s.hold ∧
    (unlockModule i s).inb = s.inb ∧ (unlockModule i s).faults = s.faults ∧
    (unlockModule i s).notices = s.notices ∧ (unlockModule i s).params = s.params ∧
    (unlockModule i s).stamp = s.stamp ∧ (unlockModule i s).pending = s.pending ∧ (unlockModule i s).link = s.link :=
  ⟨rfl, rfl, rfl, rfl, rfl, rfl, rfl, rfl, rfl, rfl, rfl, rfl, rfl, rfl, rfl⟩


end Sys2Proof.Machine
end

