-- ==== Sys2Proof/Laws/Hold.lean ====
section
/-! SUPPORT. The hold unit's operations. -/

namespace Sys2Proof.Machine

@[simp] theorem answerCycle_frame (c : Cycle) (r : Result) (data : List Byte) (s : State) :
    (answerCycle c r data s).pins = s.pins ∧ (answerCycle c r data s).windows = s.windows ∧
    (answerCycle c r data s).pages = s.pages ∧ (answerCycle c r data s).xfer = s.xfer ∧
    (answerCycle c r data s).ctrl = s.ctrl ∧ (answerCycle c r data s).arb = s.arb ∧
    (answerCycle c r data s).sup = s.sup ∧ (answerCycle c r data s).hold = s.hold ∧
    (answerCycle c r data s).inb = s.inb ∧ (answerCycle c r data s).faults = s.faults ∧
    (answerCycle c r data s).notices = s.notices ∧ (answerCycle c r data s).params = s.params ∧
    (answerCycle c r data s).stamp = s.stamp ∧ (answerCycle c r data s).modules = s.modules ∧
    (answerCycle c r data s).pending = s.pending ∧ (answerCycle c r data s).link.phase = s.link.phase ∧
    (answerCycle c r data s).link.resetTaken = s.link.resetTaken ∧
    (answerCycle c r data s).link.session = s.link.session ∧ (answerCycle c r data s).link.framer = s.link.framer ∧
    (answerCycle c r data s).link.lowRun = s.link.lowRun ∧
    (answerCycle c r data s).link.unreplied = s.link.unreplied ∧
    (answerCycle c r data s).link.cache = s.link.cache ∧ (answerCycle c r data s).link.overload = s.link.overload ∧
    (answerCycle c r data s).link.linkUp = s.link.linkUp ∧
    (answerCycle c r data s).link.noticeCounter = s.link.noticeCounter ∧
    (answerCycle c r data s).link.transmitter = s.link.transmitter ∧
    (answerCycle c r data s).link.rate = s.link.rate := by
  simp [answerCycle]

@[simp] theorem endHold_frame (s : State) :
    (endHold s).pins = s.pins ∧ (endHold s).windows = s.windows ∧ (endHold s).pages = s.pages ∧
    (endHold s).xfer = s.xfer ∧ (endHold s).ctrl = s.ctrl ∧ (endHold s).sup = s.sup ∧ (endHold s).inb = s.inb ∧
    (endHold s).faults = s.faults ∧ (endHold s).params = s.params ∧ (endHold s).stamp = s.stamp ∧
    (endHold s).modules = s.modules ∧ (endHold s).pending = s.pending ∧ (endHold s).link.phase = s.link.phase ∧
    (endHold s).link.resetTaken = s.link.resetTaken ∧ (endHold s).link.session = s.link.session ∧
    (endHold s).link.framer = s.link.framer ∧
    (endHold s).link.lowRun = s.link.lowRun ∧ (endHold s).link.unreplied = s.link.unreplied ∧
    (endHold s).link.cache = s.link.cache ∧ (endHold s).link.overload = s.link.overload ∧
    (endHold s).link.linkUp = s.link.linkUp ∧ (endHold s).link.noticeCounter = s.link.noticeCounter ∧
    (endHold s).link.rate = s.link.rate ∧ (endHold s).arb.waiting = s.arb.waiting ∧
    (endHold s).arb.turn = s.arb.turn ∧ (endHold s).arb.choice = s.arb.choice ∧
    (endHold s).hold.acquire = s.hold.acquire ∧ (endHold s).hold.cycle = s.hold.cycle ∧
    (endHold s).notices.slotPending = s.notices.slotPending ∧
    (endHold s).notices.slotEnabled = s.notices.slotEnabled ∧
    (endHold s).notices.faultEnabled = s.notices.faultEnabled ∧
    (endHold s).notices.holdEnabled = s.notices.holdEnabled := by
  refine ⟨?_, ?_, ?_, ?_, ?_, ?_, ?_, ?_, ?_, ?_, ?_, ?_, ?_, ?_, ?_, ?_, ?_, ?_, ?_, ?_, ?_, ?_, ?_, ?_, ?_, ?_, ?_, ?_, ?_, ?_, ?_, ?_⟩ <;>
    (simp only [endHold]; split <;> simp)

@[simp] theorem holdMayEnd_frame (s : State) :
    (holdMayEnd s).pins = s.pins ∧ (holdMayEnd s).windows = s.windows ∧ (holdMayEnd s).pages = s.pages ∧
    (holdMayEnd s).xfer = s.xfer ∧ (holdMayEnd s).ctrl = s.ctrl ∧ (holdMayEnd s).sup = s.sup ∧
    (holdMayEnd s).inb = s.inb ∧ (holdMayEnd s).faults = s.faults ∧ (holdMayEnd s).params = s.params ∧
    (holdMayEnd s).stamp = s.stamp ∧ (holdMayEnd s).modules = s.modules ∧ (holdMayEnd s).pending = s.pending ∧
    (holdMayEnd s).link.phase = s.link.phase ∧ (holdMayEnd s).link.resetTaken = s.link.resetTaken ∧
    (holdMayEnd s).link.session = s.link.session ∧ (holdMayEnd s).link.framer = s.link.framer ∧
    (holdMayEnd s).link.lowRun = s.link.lowRun ∧
    (holdMayEnd s).link.unreplied = s.link.unreplied ∧ (holdMayEnd s).link.cache = s.link.cache ∧
    (holdMayEnd s).link.overload = s.link.overload ∧ (holdMayEnd s).link.linkUp = s.link.linkUp ∧
    (holdMayEnd s).link.noticeCounter = s.link.noticeCounter ∧ (holdMayEnd s).link.rate = s.link.rate ∧
    (holdMayEnd s).arb.waiting = s.arb.waiting ∧ (holdMayEnd s).arb.turn = s.arb.turn ∧
    (holdMayEnd s).arb.choice = s.arb.choice ∧ (holdMayEnd s).hold.acquire = s.hold.acquire ∧
    (holdMayEnd s).hold.cycle = s.hold.cycle ∧ (holdMayEnd s).notices.slotPending = s.notices.slotPending ∧
    (holdMayEnd s).notices.slotEnabled = s.notices.slotEnabled ∧
    (holdMayEnd s).notices.faultEnabled = s.notices.faultEnabled ∧
    (holdMayEnd s).notices.holdEnabled = s.notices.holdEnabled := by
  refine ⟨?_, ?_, ?_, ?_, ?_, ?_, ?_, ?_, ?_, ?_, ?_, ?_, ?_, ?_, ?_, ?_, ?_, ?_, ?_, ?_, ?_, ?_, ?_, ?_, ?_, ?_, ?_, ?_, ?_, ?_, ?_, ?_⟩ <;>
    (simp only [holdMayEnd]; split <;> simp)

@[simp] theorem startCycles_frame (cs : List Cycle) (s : State) :
    (startCycles cs s).pins = s.pins ∧ (startCycles cs s).windows = s.windows ∧
    (startCycles cs s).pages = s.pages ∧ (startCycles cs s).xfer = s.xfer ∧ (startCycles cs s).arb = s.arb ∧
    (startCycles cs s).sup = s.sup ∧ (startCycles cs s).inb = s.inb ∧ (startCycles cs s).faults = s.faults ∧
    (startCycles cs s).notices = s.notices ∧ (startCycles cs s).params = s.params ∧
    (startCycles cs s).stamp = s.stamp ∧ (startCycles cs s).pending = s.pending ∧
    (startCycles cs s).link.phase = s.link.phase ∧ (startCycles cs s).link.resetTaken = s.link.resetTaken ∧
    (startCycles cs s).link.session = s.link.session ∧ (startCycles cs s).link.framer = s.link.framer ∧
    (startCycles cs s).link.lowRun = s.link.lowRun ∧
    (startCycles cs s).link.unreplied = s.link.unreplied ∧ (startCycles cs s).link.cache = s.link.cache ∧
    (startCycles cs s).link.overload = s.link.overload ∧ (startCycles cs s).link.linkUp = s.link.linkUp ∧
    (startCycles cs s).link.noticeCounter = s.link.noticeCounter ∧
    (startCycles cs s).link.transmitter = s.link.transmitter ∧ (startCycles cs s).link.rate = s.link.rate ∧
    (startCycles cs s).ctrl.readCheck = s.ctrl.readCheck ∧ (startCycles cs s).hold.state = s.hold.state ∧
    (startCycles cs s).hold.acquire = s.hold.acquire ∧ (startCycles cs s).hold.limit = s.hold.limit ∧
    (startCycles cs s).hold.limitTimer = s.hold.limitTimer ∧ (startCycles cs s).hold.endCause = s.hold.endCause ∧
    (startCycles cs s).hold.releaseReply = s.hold.releaseReply := by
  induction cs generalizing s with
  | nil => simp [startCycles]
  | cons c cs ih =>
    unfold startCycles
    split
    · simp
    · simpa using ih (answerCycle c .absent [] (clearTx c.tx .absent s))

@[simp] theorem cycleResult_frame (r : Result) (data : List Byte) (s : State) :
    (cycleResult r data s).pins = s.pins ∧ (cycleResult r data s).windows = s.windows ∧
    (cycleResult r data s).pages = s.pages ∧ (cycleResult r data s).xfer = s.xfer ∧
    (cycleResult r data s).sup = s.sup ∧ (cycleResult r data s).inb = s.inb ∧
    (cycleResult r data s).faults = s.faults ∧ (cycleResult r data s).params = s.params ∧
    (cycleResult r data s).stamp = s.stamp ∧ (cycleResult r data s).pending = s.pending ∧
    (cycleResult r data s).link.phase = s.link.phase ∧ (cycleResult r data s).link.resetTaken = s.link.resetTaken ∧
    (cycleResult r data s).link.session = s.link.session ∧ (cycleResult r data s).link.framer = s.link.framer ∧
    (cycleResult r data s).link.lowRun = s.link.lowRun ∧
    (cycleResult r data s).link.unreplied = s.link.unreplied ∧ (cycleResult r data s).link.cache = s.link.cache ∧
    (cycleResult r data s).link.overload = s.link.overload ∧ (cycleResult r data s).link.linkUp = s.link.linkUp ∧
    (cycleResult r data s).link.noticeCounter = s.link.noticeCounter ∧
    (cycleResult r data s).link.rate = s.link.rate ∧ (cycleResult r data s).ctrl.readCheck = s.ctrl.readCheck ∧
    (cycleResult r data s).arb.waiting = s.arb.waiting ∧ (cycleResult r data s).arb.turn = s.arb.turn ∧
    (cycleResult r data s).arb.choice = s.arb.choice ∧ (cycleResult r data s).hold.acquire = s.hold.acquire ∧
    (cycleResult r data s).notices.slotPending = s.notices.slotPending ∧
    (cycleResult r data s).notices.slotEnabled = s.notices.slotEnabled ∧
    (cycleResult r data s).notices.faultEnabled = s.notices.faultEnabled ∧
    (cycleResult r data s).notices.holdEnabled = s.notices.holdEnabled := by
  refine ⟨?_, ?_, ?_, ?_, ?_, ?_, ?_, ?_, ?_, ?_, ?_, ?_, ?_, ?_, ?_, ?_, ?_, ?_, ?_, ?_, ?_, ?_, ?_, ?_, ?_, ?_, ?_, ?_, ?_, ?_⟩ <;>
    (unfold cycleResult; dsimp only; (repeat' split) <;> simp)

end Sys2Proof.Machine
end

