-- ==== Sys2Proof/Laws/Supervisor.lean ====
section
/-! SUPPORT. What the supervisor's operations leave as it was, and the slots they leave alone. -/

namespace Sys2Proof.Machine

@[simp] theorem enterFaulted_frame (i : SlotId) (cause : SlotCause) (s : State) :
    (enterFaulted i cause s).pins = s.pins ∧ (enterFaulted i cause s).windows = s.windows ∧
    (enterFaulted i cause s).pages = s.pages ∧ (enterFaulted i cause s).xfer = s.xfer ∧
    (enterFaulted i cause s).ctrl = s.ctrl ∧ (enterFaulted i cause s).arb = s.arb ∧
    (enterFaulted i cause s).hold = s.hold ∧ (enterFaulted i cause s).params = s.params ∧
    (enterFaulted i cause s).stamp = s.stamp ∧ (enterFaulted i cause s).modules = s.modules ∧
    (enterFaulted i cause s).pending = s.pending ∧ (enterFaulted i cause s).link.phase = s.link.phase ∧
    (enterFaulted i cause s).link.resetTaken = s.link.resetTaken ∧
    (enterFaulted i cause s).link.session = s.link.session ∧ (enterFaulted i cause s).link.framer = s.link.framer ∧
    (enterFaulted i cause s).link.lowRun = s.link.lowRun ∧
    (enterFaulted i cause s).link.unreplied = s.link.unreplied ∧
    (enterFaulted i cause s).link.cache = s.link.cache ∧ (enterFaulted i cause s).link.overload = s.link.overload ∧
    (enterFaulted i cause s).link.linkUp = s.link.linkUp ∧
    (enterFaulted i cause s).link.noticeCounter = s.link.noticeCounter ∧
    (enterFaulted i cause s).link.transmitter = s.link.transmitter ∧
    (enterFaulted i cause s).link.rate = s.link.rate ∧ (enterFaulted i cause s).inb.posts = s.inb.posts ∧
    (enterFaulted i cause s).inb.reserved = s.inb.reserved ∧ (enterFaulted i cause s).inb.service = s.inb.service ∧
    (enterFaulted i cause s).inb.pointer = s.inb.pointer ∧ (enterFaulted i cause s).inb.credits = s.inb.credits ∧
    (enterFaulted i cause s).inb.masked = s.inb.masked ∧
    (enterFaulted i cause s).inb.nextNumber = s.inb.nextNumber ∧
    (enterFaulted i cause s).notices.holdEnd = s.notices.holdEnd ∧
    (enterFaulted i cause s).notices.slotEnabled = s.notices.slotEnabled ∧
    (enterFaulted i cause s).notices.faultEnabled = s.notices.faultEnabled ∧
    (enterFaulted i cause s).notices.holdEnabled = s.notices.holdEnabled := by
  simp [enterFaulted]

@[simp] theorem removeSlot_frame (i : SlotId) (s : State) :
    (removeSlot i s).pins = s.pins ∧ (removeSlot i s).windows = s.windows ∧ (removeSlot i s).pages = s.pages ∧
    (removeSlot i s).xfer = s.xfer ∧ (removeSlot i s).ctrl = s.ctrl ∧ (removeSlot i s).arb = s.arb ∧
    (removeSlot i s).hold = s.hold ∧ (removeSlot i s).faults = s.faults ∧ (removeSlot i s).params = s.params ∧
    (removeSlot i s).stamp = s.stamp ∧ (removeSlot i s).modules = s.modules ∧
    (removeSlot i s).pending = s.pending ∧ (removeSlot i s).link.phase = s.link.phase ∧
    (removeSlot i s).link.resetTaken = s.link.resetTaken ∧ (removeSlot i s).link.session = s.link.session ∧
    (removeSlot i s).link.framer = s.link.framer ∧
    (removeSlot i s).link.lowRun = s.link.lowRun ∧ (removeSlot i s).link.unreplied = s.link.unreplied ∧
    (removeSlot i s).link.cache = s.link.cache ∧ (removeSlot i s).link.overload = s.link.overload ∧
    (removeSlot i s).link.linkUp = s.link.linkUp ∧ (removeSlot i s).link.noticeCounter = s.link.noticeCounter ∧
    (removeSlot i s).link.transmitter = s.link.transmitter ∧ (removeSlot i s).link.rate = s.link.rate ∧
    (removeSlot i s).inb.posts = s.inb.posts ∧ (removeSlot i s).inb.reserved = s.inb.reserved ∧
    (removeSlot i s).inb.service = s.inb.service ∧ (removeSlot i s).inb.pointer = s.inb.pointer ∧
    (removeSlot i s).inb.credits = s.inb.credits ∧ (removeSlot i s).inb.masked = s.inb.masked ∧
    (removeSlot i s).inb.nextNumber = s.inb.nextNumber ∧ (removeSlot i s).notices.holdEnd = s.notices.holdEnd ∧
    (removeSlot i s).notices.slotEnabled = s.notices.slotEnabled ∧
    (removeSlot i s).notices.faultEnabled = s.notices.faultEnabled ∧
    (removeSlot i s).notices.holdEnabled = s.notices.holdEnabled := by
  simp [removeSlot]

@[simp] theorem enterSettling_frame (i : SlotId) (cause : LastCause) (s : State) :
    (enterSettling i cause s).pins = s.pins ∧ (enterSettling i cause s).windows = s.windows ∧
    (enterSettling i cause s).pages = s.pages ∧ (enterSettling i cause s).xfer = s.xfer ∧
    (enterSettling i cause s).ctrl = s.ctrl ∧ (enterSettling i cause s).arb = s.arb ∧
    (enterSettling i cause s).hold = s.hold ∧ (enterSettling i cause s).faults = s.faults ∧
    (enterSettling i cause s).params = s.params ∧ (enterSettling i cause s).stamp = s.stamp ∧
    (enterSettling i cause s).modules = s.modules ∧ (enterSettling i cause s).pending = s.pending ∧
    (enterSettling i cause s).link = s.link ∧ (enterSettling i cause s).sup.work = s.sup.work ∧
    (enterSettling i cause s).inb.posts = s.inb.posts ∧ (enterSettling i cause s).inb.reserved = s.inb.reserved ∧
    (enterSettling i cause s).inb.service = s.inb.service ∧ (enterSettling i cause s).inb.pointer = s.inb.pointer ∧
    (enterSettling i cause s).inb.credits = s.inb.credits ∧ (enterSettling i cause s).inb.masked = s.inb.masked ∧
    (enterSettling i cause s).inb.nextNumber = s.inb.nextNumber ∧
    (enterSettling i cause s).notices.holdEnd = s.notices.holdEnd ∧
    (enterSettling i cause s).notices.slotEnabled = s.notices.slotEnabled ∧
    (enterSettling i cause s).notices.faultEnabled = s.notices.faultEnabled ∧
    (enterSettling i cause s).notices.holdEnabled = s.notices.holdEnabled := by
  simp [enterSettling]

@[simp] theorem samplePresence_frame (i : SlotId) (cause : LastCause) (s : State) :
    (samplePresence i cause s).pins = s.pins ∧ (samplePresence i cause s).windows = s.windows ∧
    (samplePresence i cause s).pages = s.pages ∧ (samplePresence i cause s).xfer = s.xfer ∧
    (samplePresence i cause s).ctrl = s.ctrl ∧ (samplePresence i cause s).arb = s.arb ∧
    (samplePresence i cause s).hold = s.hold ∧ (samplePresence i cause s).faults = s.faults ∧
    (samplePresence i cause s).params = s.params ∧ (samplePresence i cause s).stamp = s.stamp ∧
    (samplePresence i cause s).modules = s.modules ∧ (samplePresence i cause s).pending = s.pending ∧
    (samplePresence i cause s).link = s.link ∧ (samplePresence i cause s).sup.work = s.sup.work ∧
    (samplePresence i cause s).inb.posts = s.inb.posts ∧ (samplePresence i cause s).inb.reserved = s.inb.reserved ∧
    (samplePresence i cause s).inb.service = s.inb.service ∧
    (samplePresence i cause s).inb.pointer = s.inb.pointer ∧
    (samplePresence i cause s).inb.credits = s.inb.credits ∧ (samplePresence i cause s).inb.masked = s.inb.masked ∧
    (samplePresence i cause s).inb.nextNumber = s.inb.nextNumber ∧
    (samplePresence i cause s).notices.holdEnd = s.notices.holdEnd ∧
    (samplePresence i cause s).notices.slotEnabled = s.notices.slotEnabled ∧
    (samplePresence i cause s).notices.faultEnabled = s.notices.faultEnabled ∧
    (samplePresence i cause s).notices.holdEnabled = s.notices.holdEnabled := by
  refine ⟨?_, ?_, ?_, ?_, ?_, ?_, ?_, ?_, ?_, ?_, ?_, ?_, ?_, ?_, ?_, ?_, ?_, ?_, ?_, ?_, ?_, ?_, ?_, ?_, ?_⟩ <;>
    (simp only [samplePresence]; split <;> simp)

@[simp] theorem beginAttempt_frame (i : SlotId) (s : State) :
    (beginAttempt i s).pins = s.pins ∧ (beginAttempt i s).windows = s.windows ∧
    (beginAttempt i s).pages = s.pages ∧ (beginAttempt i s).xfer = s.xfer ∧ (beginAttempt i s).ctrl = s.ctrl ∧
    (beginAttempt i s).arb = s.arb ∧ (beginAttempt i s).hold = s.hold ∧ (beginAttempt i s).inb = s.inb ∧
    (beginAttempt i s).faults = s.faults ∧ (beginAttempt i s).notices = s.notices ∧
    (beginAttempt i s).params = s.params ∧ (beginAttempt i s).stamp = s.stamp ∧
    (beginAttempt i s).modules = s.modules ∧ (beginAttempt i s).pending = s.pending ∧
    (beginAttempt i s).link = s.link :=
  ⟨rfl, rfl, rfl, rfl, rfl, rfl, rfl, rfl, rfl, rfl, rfl, rfl, rfl, rfl, rfl⟩

@[simp] theorem beginEnrollment_frame (i : SlotId) (cause : LastCause) (s : State) :
    (beginEnrollment i cause s).pins = s.pins ∧ (beginEnrollment i cause s).windows = s.windows ∧
    (beginEnrollment i cause s).pages = s.pages ∧ (beginEnrollment i cause s).xfer = s.xfer ∧
    (beginEnrollment i cause s).ctrl = s.ctrl ∧ (beginEnrollment i cause s).arb = s.arb ∧
    (beginEnrollment i cause s).hold = s.hold ∧ (beginEnrollment i cause s).faults = s.faults ∧
    (beginEnrollment i cause s).params = s.params ∧ (beginEnrollment i cause s).stamp = s.stamp ∧
    (beginEnrollment i cause s).modules = s.modules ∧ (beginEnrollment i cause s).pending = s.pending ∧
    (beginEnrollment i cause s).link = s.link ∧ (beginEnrollment i cause s).inb.posts = s.inb.posts ∧
    (beginEnrollment i cause s).inb.reserved = s.inb.reserved ∧
    (beginEnrollment i cause s).inb.service = s.inb.service ∧
    (beginEnrollment i cause s).inb.pointer = s.inb.pointer ∧
    (beginEnrollment i cause s).inb.credits = s.inb.credits ∧
    (beginEnrollment i cause s).inb.masked = s.inb.masked ∧
    (beginEnrollment i cause s).inb.nextNumber = s.inb.nextNumber ∧
    (beginEnrollment i cause s).notices.holdEnd = s.notices.holdEnd ∧
    (beginEnrollment i cause s).notices.slotEnabled = s.notices.slotEnabled ∧
    (beginEnrollment i cause s).notices.faultEnabled = s.notices.faultEnabled ∧
    (beginEnrollment i cause s).notices.holdEnabled = s.notices.holdEnabled := by
  simp [beginEnrollment]

@[simp] theorem failAttempt_frame (i : SlotId) (cause : SlotCause) (s : State) :
    (failAttempt i cause s).pins = s.pins ∧ (failAttempt i cause s).windows = s.windows ∧
    (failAttempt i cause s).pages = s.pages ∧ (failAttempt i cause s).xfer = s.xfer ∧
    (failAttempt i cause s).ctrl = s.ctrl ∧ (failAttempt i cause s).arb = s.arb ∧
    (failAttempt i cause s).hold = s.hold ∧ (failAttempt i cause s).params = s.params ∧
    (failAttempt i cause s).stamp = s.stamp ∧ (failAttempt i cause s).modules = s.modules ∧
    (failAttempt i cause s).pending = s.pending ∧ (failAttempt i cause s).link.phase = s.link.phase ∧
    (failAttempt i cause s).link.resetTaken = s.link.resetTaken ∧
    (failAttempt i cause s).link.session = s.link.session ∧ (failAttempt i cause s).link.framer = s.link.framer ∧
    (failAttempt i cause s).link.lowRun = s.link.lowRun ∧
    (failAttempt i cause s).link.unreplied = s.link.unreplied ∧ (failAttempt i cause s).link.cache = s.link.cache ∧
    (failAttempt i cause s).link.overload = s.link.overload ∧ (failAttempt i cause s).link.linkUp = s.link.linkUp ∧
    (failAttempt i cause s).link.noticeCounter = s.link.noticeCounter ∧
    (failAttempt i cause s).link.transmitter = s.link.transmitter ∧
    (failAttempt i cause s).link.rate = s.link.rate ∧ (failAttempt i cause s).inb.posts = s.inb.posts ∧
    (failAttempt i cause s).inb.reserved = s.inb.reserved ∧ (failAttempt i cause s).inb.service = s.inb.service ∧
    (failAttempt i cause s).inb.pointer = s.inb.pointer ∧ (failAttempt i cause s).inb.credits = s.inb.credits ∧
    (failAttempt i cause s).inb.masked = s.inb.masked ∧ (failAttempt i cause s).inb.nextNumber = s.inb.nextNumber ∧
    (failAttempt i cause s).notices.holdEnd = s.notices.holdEnd ∧
    (failAttempt i cause s).notices.slotEnabled = s.notices.slotEnabled ∧
    (failAttempt i cause s).notices.faultEnabled = s.notices.faultEnabled ∧
    (failAttempt i cause s).notices.holdEnabled = s.notices.holdEnabled := by
  refine ⟨?_, ?_, ?_, ?_, ?_, ?_, ?_, ?_, ?_, ?_, ?_, ?_, ?_, ?_, ?_, ?_, ?_, ?_, ?_, ?_, ?_, ?_, ?_, ?_, ?_, ?_, ?_, ?_, ?_, ?_, ?_, ?_, ?_, ?_⟩ <;>
    (simp only [failAttempt]; split <;> simp)

@[simp] theorem enrollSucceeds_frame (i : SlotId) (d : Descriptor) (word : Word) (s : State) :
    (enrollSucceeds i d word s).pins = s.pins ∧ (enrollSucceeds i d word s).windows = s.windows ∧
    (enrollSucceeds i d word s).pages = s.pages ∧ (enrollSucceeds i d word s).xfer = s.xfer ∧
    (enrollSucceeds i d word s).ctrl = s.ctrl ∧ (enrollSucceeds i d word s).arb = s.arb ∧
    (enrollSucceeds i d word s).hold = s.hold ∧ (enrollSucceeds i d word s).faults = s.faults ∧
    (enrollSucceeds i d word s).params = s.params ∧ (enrollSucceeds i d word s).stamp = s.stamp ∧
    (enrollSucceeds i d word s).modules = s.modules ∧ (enrollSucceeds i d word s).pending = s.pending ∧
    (enrollSucceeds i d word s).link.phase = s.link.phase ∧
    (enrollSucceeds i d word s).link.resetTaken = s.link.resetTaken ∧
    (enrollSucceeds i d word s).link.session = s.link.session ∧
    (enrollSucceeds i d word s).link.framer = s.link.framer ∧
    (enrollSucceeds i d word s).link.lowRun = s.link.lowRun ∧
    (enrollSucceeds i d word s).link.unreplied = s.link.unreplied ∧
    (enrollSucceeds i d word s).link.cache = s.link.cache ∧
    (enrollSucceeds i d word s).link.overload = s.link.overload ∧
    (enrollSucceeds i d word s).link.linkUp = s.link.linkUp ∧
    (enrollSucceeds i d word s).link.noticeCounter = s.link.noticeCounter ∧
    (enrollSucceeds i d word s).link.transmitter = s.link.transmitter ∧
    (enrollSucceeds i d word s).link.rate = s.link.rate ∧ (enrollSucceeds i d word s).sup.work = s.sup.work ∧
    (enrollSucceeds i d word s).inb.posts = s.inb.posts ∧
    (enrollSucceeds i d word s).inb.reserved = s.inb.reserved ∧
    (enrollSucceeds i d word s).inb.service = s.inb.service ∧
    (enrollSucceeds i d word s).inb.pointer = s.inb.pointer ∧
    (enrollSucceeds i d word s).inb.credits = s.inb.credits ∧
    (enrollSucceeds i d word s).inb.masked = s.inb.masked ∧
    (enrollSucceeds i d word s).inb.nextNumber = s.inb.nextNumber ∧
    (enrollSucceeds i d word s).notices.holdEnd = s.notices.holdEnd ∧
    (enrollSucceeds i d word s).notices.slotEnabled = s.notices.slotEnabled ∧
    (enrollSucceeds i d word s).notices.faultEnabled = s.notices.faultEnabled ∧
    (enrollSucceeds i d word s).notices.holdEnabled = s.notices.holdEnabled := by
  simp [enrollSucceeds]

@[simp] theorem failCheck_frame (i : SlotId) (s : State) :
    (failCheck i s).pins = s.pins ∧ (failCheck i s).windows = s.windows ∧ (failCheck i s).pages = s.pages ∧
    (failCheck i s).xfer = s.xfer ∧ (failCheck i s).ctrl = s.ctrl ∧ (failCheck i s).arb = s.arb ∧
    (failCheck i s).hold = s.hold ∧ (failCheck i s).params = s.params ∧ (failCheck i s).stamp = s.stamp ∧
    (failCheck i s).modules = s.modules ∧ (failCheck i s).pending = s.pending ∧
    (failCheck i s).link.phase = s.link.phase ∧ (failCheck i s).link.resetTaken = s.link.resetTaken ∧
    (failCheck i s).link.session = s.link.session ∧ (failCheck i s).link.framer = s.link.framer ∧
    (failCheck i s).link.lowRun = s.link.lowRun ∧
    (failCheck i s).link.unreplied = s.link.unreplied ∧ (failCheck i s).link.cache = s.link.cache ∧
    (failCheck i s).link.overload = s.link.overload ∧ (failCheck i s).link.linkUp = s.link.linkUp ∧
    (failCheck i s).link.noticeCounter = s.link.noticeCounter ∧
    (failCheck i s).link.transmitter = s.link.transmitter ∧ (failCheck i s).link.rate = s.link.rate ∧
    (failCheck i s).inb.posts = s.inb.posts ∧ (failCheck i s).inb.reserved = s.inb.reserved ∧
    (failCheck i s).inb.service = s.inb.service ∧ (failCheck i s).inb.pointer = s.inb.pointer ∧
    (failCheck i s).inb.credits = s.inb.credits ∧ (failCheck i s).inb.masked = s.inb.masked ∧
    (failCheck i s).inb.nextNumber = s.inb.nextNumber ∧ (failCheck i s).notices.holdEnd = s.notices.holdEnd ∧
    (failCheck i s).notices.slotEnabled = s.notices.slotEnabled ∧
    (failCheck i s).notices.faultEnabled = s.notices.faultEnabled ∧
    (failCheck i s).notices.holdEnabled = s.notices.holdEnabled := by
  refine ⟨?_, ?_, ?_, ?_, ?_, ?_, ?_, ?_, ?_, ?_, ?_, ?_, ?_, ?_, ?_, ?_, ?_, ?_, ?_, ?_, ?_, ?_, ?_, ?_, ?_, ?_, ?_, ?_, ?_, ?_, ?_, ?_, ?_, ?_⟩ <;>
    (unfold failCheck; dsimp only; (repeat' split) <;> simp)

@[simp] theorem passCheck_frame (i : SlotId) (word : Word) (s : State) :
    (passCheck i word s).pins = s.pins ∧ (passCheck i word s).windows = s.windows ∧
    (passCheck i word s).pages = s.pages ∧ (passCheck i word s).xfer = s.xfer ∧
    (passCheck i word s).ctrl = s.ctrl ∧ (passCheck i word s).arb = s.arb ∧ (passCheck i word s).hold = s.hold ∧
    (passCheck i word s).faults = s.faults ∧ (passCheck i word s).params = s.params ∧
    (passCheck i word s).stamp = s.stamp ∧ (passCheck i word s).modules = s.modules ∧
    (passCheck i word s).pending = s.pending ∧ (passCheck i word s).link = s.link ∧
    (passCheck i word s).sup.work = s.sup.work ∧ (passCheck i word s).inb.posts = s.inb.posts ∧
    (passCheck i word s).inb.reserved = s.inb.reserved ∧ (passCheck i word s).inb.service = s.inb.service ∧
    (passCheck i word s).inb.pointer = s.inb.pointer ∧ (passCheck i word s).inb.credits = s.inb.credits ∧
    (passCheck i word s).inb.masked = s.inb.masked ∧ (passCheck i word s).inb.nextNumber = s.inb.nextNumber ∧
    (passCheck i word s).notices.holdEnd = s.notices.holdEnd ∧
    (passCheck i word s).notices.slotEnabled = s.notices.slotEnabled ∧
    (passCheck i word s).notices.faultEnabled = s.notices.faultEnabled ∧
    (passCheck i word s).notices.holdEnabled = s.notices.holdEnabled := by
  refine ⟨?_, ?_, ?_, ?_, ?_, ?_, ?_, ?_, ?_, ?_, ?_, ?_, ?_, ?_, ?_, ?_, ?_, ?_, ?_, ?_, ?_, ?_, ?_, ?_, ?_⟩ <;>
    (simp only [passCheck]; split <;> simp)

@[simp] theorem skipCheck_frame (i : SlotId) (s : State) :
    (skipCheck i s).pins = s.pins ∧ (skipCheck i s).windows = s.windows ∧ (skipCheck i s).pages = s.pages ∧
    (skipCheck i s).xfer = s.xfer ∧ (skipCheck i s).ctrl = s.ctrl ∧ (skipCheck i s).arb = s.arb ∧
    (skipCheck i s).hold = s.hold ∧ (skipCheck i s).params = s.params ∧ (skipCheck i s).stamp = s.stamp ∧
    (skipCheck i s).modules = s.modules ∧ (skipCheck i s).pending = s.pending ∧
    (skipCheck i s).link.phase = s.link.phase ∧ (skipCheck i s).link.resetTaken = s.link.resetTaken ∧
    (skipCheck i s).link.session = s.link.session ∧ (skipCheck i s).link.framer = s.link.framer ∧
    (skipCheck i s).link.lowRun = s.link.lowRun ∧
    (skipCheck i s).link.unreplied = s.link.unreplied ∧ (skipCheck i s).link.cache = s.link.cache ∧
    (skipCheck i s).link.overload = s.link.overload ∧ (skipCheck i s).link.linkUp = s.link.linkUp ∧
    (skipCheck i s).link.noticeCounter = s.link.noticeCounter ∧
    (skipCheck i s).link.transmitter = s.link.transmitter ∧ (skipCheck i s).link.rate = s.link.rate ∧
    (skipCheck i s).inb.posts = s.inb.posts ∧ (skipCheck i s).inb.reserved = s.inb.reserved ∧
    (skipCheck i s).inb.service = s.inb.service ∧ (skipCheck i s).inb.pointer = s.inb.pointer ∧
    (skipCheck i s).inb.credits = s.inb.credits ∧ (skipCheck i s).inb.masked = s.inb.masked ∧
    (skipCheck i s).inb.nextNumber = s.inb.nextNumber ∧ (skipCheck i s).notices.holdEnd = s.notices.holdEnd ∧
    (skipCheck i s).notices.slotEnabled = s.notices.slotEnabled ∧
    (skipCheck i s).notices.faultEnabled = s.notices.faultEnabled ∧
    (skipCheck i s).notices.holdEnabled = s.notices.holdEnabled := by
  refine ⟨?_, ?_, ?_, ?_, ?_, ?_, ?_, ?_, ?_, ?_, ?_, ?_, ?_, ?_, ?_, ?_, ?_, ?_, ?_, ?_, ?_, ?_, ?_, ?_, ?_, ?_, ?_, ?_, ?_, ?_, ?_, ?_, ?_, ?_⟩ <;>
    (simp only [skipCheck]; split <;> simp)

@[simp] theorem judgeCheck_frame (i : SlotId) (r : Result) (data : List Byte) (s : State) :
    (judgeCheck i r data s).pins = s.pins ∧ (judgeCheck i r data s).windows = s.windows ∧
    (judgeCheck i r data s).pages = s.pages ∧ (judgeCheck i r data s).xfer = s.xfer ∧
    (judgeCheck i r data s).ctrl = s.ctrl ∧ (judgeCheck i r data s).arb = s.arb ∧
    (judgeCheck i r data s).hold = s.hold ∧ (judgeCheck i r data s).params = s.params ∧
    (judgeCheck i r data s).stamp = s.stamp ∧ (judgeCheck i r data s).modules = s.modules ∧
    (judgeCheck i r data s).pending = s.pending ∧ (judgeCheck i r data s).link.phase = s.link.phase ∧
    (judgeCheck i r data s).link.resetTaken = s.link.resetTaken ∧
    (judgeCheck i r data s).link.session = s.link.session ∧ (judgeCheck i r data s).link.framer = s.link.framer ∧
    (judgeCheck i r data s).link.lowRun = s.link.lowRun ∧
    (judgeCheck i r data s).link.unreplied = s.link.unreplied ∧ (judgeCheck i r data s).link.cache = s.link.cache ∧
    (judgeCheck i r data s).link.overload = s.link.overload ∧ (judgeCheck i r data s).link.linkUp = s.link.linkUp ∧
    (judgeCheck i r data s).link.noticeCounter = s.link.noticeCounter ∧
    (judgeCheck i r data s).link.transmitter = s.link.transmitter ∧
    (judgeCheck i r data s).link.rate = s.link.rate ∧ (judgeCheck i r data s).inb.posts = s.inb.posts ∧
    (judgeCheck i r data s).inb.reserved = s.inb.reserved ∧ (judgeCheck i r data s).inb.service = s.inb.service ∧
    (judgeCheck i r data s).inb.pointer = s.inb.pointer ∧ (judgeCheck i r data s).inb.credits = s.inb.credits ∧
    (judgeCheck i r data s).inb.masked = s.inb.masked ∧ (judgeCheck i r data s).inb.nextNumber = s.inb.nextNumber ∧
    (judgeCheck i r data s).notices.holdEnd = s.notices.holdEnd ∧
    (judgeCheck i r data s).notices.slotEnabled = s.notices.slotEnabled ∧
    (judgeCheck i r data s).notices.faultEnabled = s.notices.faultEnabled ∧
    (judgeCheck i r data s).notices.holdEnabled = s.notices.holdEnabled := by
  refine ⟨?_, ?_, ?_, ?_, ?_, ?_, ?_, ?_, ?_, ?_, ?_, ?_, ?_, ?_, ?_, ?_, ?_, ?_, ?_, ?_, ?_, ?_, ?_, ?_, ?_, ?_, ?_, ?_, ?_, ?_, ?_, ?_, ?_, ?_⟩ <;>
    (unfold judgeCheck; (repeat' split) <;> simp)

@[simp] theorem skipItems_frame (s : State) :
    (skipItems s).pins = s.pins ∧ (skipItems s).windows = s.windows ∧ (skipItems s).pages = s.pages ∧
    (skipItems s).xfer = s.xfer ∧ (skipItems s).ctrl = s.ctrl ∧ (skipItems s).arb = s.arb ∧
    (skipItems s).hold = s.hold ∧ (skipItems s).params = s.params ∧ (skipItems s).stamp = s.stamp ∧
    (skipItems s).modules = s.modules ∧ (skipItems s).pending = s.pending ∧
    (skipItems s).link.phase = s.link.phase ∧ (skipItems s).link.resetTaken = s.link.resetTaken ∧
    (skipItems s).link.session = s.link.session ∧ (skipItems s).link.framer = s.link.framer ∧
    (skipItems s).link.lowRun = s.link.lowRun ∧
    (skipItems s).link.unreplied = s.link.unreplied ∧ (skipItems s).link.cache = s.link.cache ∧
    (skipItems s).link.overload = s.link.overload ∧ (skipItems s).link.linkUp = s.link.linkUp ∧
    (skipItems s).link.noticeCounter = s.link.noticeCounter ∧ (skipItems s).link.transmitter = s.link.transmitter ∧
    (skipItems s).link.rate = s.link.rate ∧ (skipItems s).inb.posts = s.inb.posts ∧
    (skipItems s).inb.reserved = s.inb.reserved ∧ (skipItems s).inb.service = s.inb.service ∧
    (skipItems s).inb.pointer = s.inb.pointer ∧ (skipItems s).inb.credits = s.inb.credits ∧
    (skipItems s).inb.masked = s.inb.masked ∧ (skipItems s).inb.nextNumber = s.inb.nextNumber ∧
    (skipItems s).notices.holdEnd = s.notices.holdEnd ∧ (skipItems s).notices.slotEnabled = s.notices.slotEnabled ∧
    (skipItems s).notices.faultEnabled = s.notices.faultEnabled ∧
    (skipItems s).notices.holdEnabled = s.notices.holdEnabled := by
  have fold (l : List WorkItem) (u : State) :
      (l.foldl (fun s w => skipCheck w.slot s) u).pins = u.pins ∧
      (l.foldl (fun s w => skipCheck w.slot s) u).windows = u.windows ∧
      (l.foldl (fun s w => skipCheck w.slot s) u).pages = u.pages ∧
      (l.foldl (fun s w => skipCheck w.slot s) u).xfer = u.xfer ∧
      (l.foldl (fun s w => skipCheck w.slot s) u).ctrl = u.ctrl ∧
      (l.foldl (fun s w => skipCheck w.slot s) u).arb = u.arb ∧
      (l.foldl (fun s w => skipCheck w.slot s) u).hold = u.hold ∧
      (l.foldl (fun s w => skipCheck w.slot s) u).params = u.params ∧
      (l.foldl (fun s w => skipCheck w.slot s) u).stamp = u.stamp ∧
      (l.foldl (fun s w => skipCheck w.slot s) u).modules = u.modules ∧
      (l.foldl (fun s w => skipCheck w.slot s) u).pending = u.pending ∧
      (l.foldl (fun s w => skipCheck w.slot s) u).link.phase = u.link.phase ∧
      (l.foldl (fun s w => skipCheck w.slot s) u).link.resetTaken = u.link.resetTaken ∧
      (l.foldl (fun s w => skipCheck w.slot s) u).link.session = u.link.session ∧
      (l.foldl (fun s w => skipCheck w.slot s) u).link.framer = u.link.framer ∧
      (l.foldl (fun s w => skipCheck w.slot s) u).link.lowRun = u.link.lowRun ∧
      (l.foldl (fun s w => skipCheck w.slot s) u).link.unreplied = u.link.unreplied ∧
      (l.foldl (fun s w => skipCheck w.slot s) u).link.cache = u.link.cache ∧
      (l.foldl (fun s w => skipCheck w.slot s) u).link.overload = u.link.overload ∧
      (l.foldl (fun s w => skipCheck w.slot s) u).link.linkUp = u.link.linkUp ∧
      (l.foldl (fun s w => skipCheck w.slot s) u).link.noticeCounter = u.link.noticeCounter ∧
      (l.foldl (fun s w => skipCheck w.slot s) u).link.transmitter = u.link.transmitter ∧
      (l.foldl (fun s w => skipCheck w.slot s) u).link.rate = u.link.rate ∧
      (l.foldl (fun s w => skipCheck w.slot s) u).inb.posts = u.inb.posts ∧
      (l.foldl (fun s w => skipCheck w.slot s) u).inb.reserved = u.inb.reserved ∧
      (l.foldl (fun s w => skipCheck w.slot s) u).inb.service = u.inb.service ∧
      (l.foldl (fun s w => skipCheck w.slot s) u).inb.pointer = u.inb.pointer ∧
      (l.foldl (fun s w => skipCheck w.slot s) u).inb.credits = u.inb.credits ∧
      (l.foldl (fun s w => skipCheck w.slot s) u).inb.masked = u.inb.masked ∧
      (l.foldl (fun s w => skipCheck w.slot s) u).inb.nextNumber = u.inb.nextNumber ∧
      (l.foldl (fun s w => skipCheck w.slot s) u).notices.holdEnd = u.notices.holdEnd ∧
      (l.foldl (fun s w => skipCheck w.slot s) u).notices.slotEnabled = u.notices.slotEnabled ∧
      (l.foldl (fun s w => skipCheck w.slot s) u).notices.faultEnabled = u.notices.faultEnabled ∧
      (l.foldl (fun s w => skipCheck w.slot s) u).notices.holdEnabled = u.notices.holdEnabled := by
    induction l generalizing u with
    | nil => simp
    | cons w l ih => simpa using ih (skipCheck w.slot u)
  exact fold _ _

@[simp] theorem checkDue_frame (i : SlotId) (s : State) :
    (checkDue i s).pins = s.pins ∧ (checkDue i s).windows = s.windows ∧ (checkDue i s).pages = s.pages ∧
    (checkDue i s).xfer = s.xfer ∧ (checkDue i s).ctrl = s.ctrl ∧ (checkDue i s).arb = s.arb ∧
    (checkDue i s).hold = s.hold ∧ (checkDue i s).params = s.params ∧ (checkDue i s).stamp = s.stamp ∧
    (checkDue i s).modules = s.modules ∧ (checkDue i s).pending = s.pending ∧
    (checkDue i s).link.phase = s.link.phase ∧ (checkDue i s).link.resetTaken = s.link.resetTaken ∧
    (checkDue i s).link.session = s.link.session ∧ (checkDue i s).link.framer = s.link.framer ∧
    (checkDue i s).link.lowRun = s.link.lowRun ∧
    (checkDue i s).link.unreplied = s.link.unreplied ∧ (checkDue i s).link.cache = s.link.cache ∧
    (checkDue i s).link.overload = s.link.overload ∧ (checkDue i s).link.linkUp = s.link.linkUp ∧
    (checkDue i s).link.noticeCounter = s.link.noticeCounter ∧
    (checkDue i s).link.transmitter = s.link.transmitter ∧ (checkDue i s).link.rate = s.link.rate ∧
    (checkDue i s).inb.posts = s.inb.posts ∧ (checkDue i s).inb.reserved = s.inb.reserved ∧
    (checkDue i s).inb.service = s.inb.service ∧ (checkDue i s).inb.pointer = s.inb.pointer ∧
    (checkDue i s).inb.credits = s.inb.credits ∧ (checkDue i s).inb.masked = s.inb.masked ∧
    (checkDue i s).inb.nextNumber = s.inb.nextNumber ∧ (checkDue i s).notices.holdEnd = s.notices.holdEnd ∧
    (checkDue i s).notices.slotEnabled = s.notices.slotEnabled ∧
    (checkDue i s).notices.faultEnabled = s.notices.faultEnabled ∧
    (checkDue i s).notices.holdEnabled = s.notices.holdEnabled := by
  refine ⟨?_, ?_, ?_, ?_, ?_, ?_, ?_, ?_, ?_, ?_, ?_, ?_, ?_, ?_, ?_, ?_, ?_, ?_, ?_, ?_, ?_, ?_, ?_, ?_, ?_, ?_, ?_, ?_, ?_, ?_, ?_, ?_, ?_, ?_⟩ <;>
    (unfold checkDue; (repeat' split) <;> simp)

@[simp] theorem superviseTakes_frame (i : SlotId) (r : Result) (s : State) :
    (superviseTakes i r s).pins = s.pins ∧ (superviseTakes i r s).windows = s.windows ∧
    (superviseTakes i r s).pages = s.pages ∧ (superviseTakes i r s).xfer = s.xfer ∧
    (superviseTakes i r s).ctrl = s.ctrl ∧ (superviseTakes i r s).arb = s.arb ∧
    (superviseTakes i r s).hold = s.hold ∧ (superviseTakes i r s).params = s.params ∧
    (superviseTakes i r s).stamp = s.stamp ∧ (superviseTakes i r s).modules = s.modules ∧
    (superviseTakes i r s).pending = s.pending ∧ (superviseTakes i r s).link.phase = s.link.phase ∧
    (superviseTakes i r s).link.resetTaken = s.link.resetTaken ∧
    (superviseTakes i r s).link.session = s.link.session ∧ (superviseTakes i r s).link.framer = s.link.framer ∧
    (superviseTakes i r s).link.lowRun = s.link.lowRun ∧
    (superviseTakes i r s).link.unreplied = s.link.unreplied ∧ (superviseTakes i r s).link.cache = s.link.cache ∧
    (superviseTakes i r s).link.overload = s.link.overload ∧ (superviseTakes i r s).link.linkUp = s.link.linkUp ∧
    (superviseTakes i r s).link.noticeCounter = s.link.noticeCounter ∧
    (superviseTakes i r s).link.transmitter = s.link.transmitter ∧ (superviseTakes i r s).link.rate = s.link.rate ∧
    (superviseTakes i r s).inb.posts = s.inb.posts ∧ (superviseTakes i r s).inb.reserved = s.inb.reserved ∧
    (superviseTakes i r s).inb.service = s.inb.service ∧ (superviseTakes i r s).inb.pointer = s.inb.pointer ∧
    (superviseTakes i r s).inb.credits = s.inb.credits ∧ (superviseTakes i r s).inb.masked = s.inb.masked ∧
    (superviseTakes i r s).inb.nextNumber = s.inb.nextNumber ∧
    (superviseTakes i r s).notices.holdEnd = s.notices.holdEnd ∧
    (superviseTakes i r s).notices.slotEnabled = s.notices.slotEnabled ∧
    (superviseTakes i r s).notices.faultEnabled = s.notices.faultEnabled ∧
    (superviseTakes i r s).notices.holdEnabled = s.notices.holdEnabled := by
  refine ⟨?_, ?_, ?_, ?_, ?_, ?_, ?_, ?_, ?_, ?_, ?_, ?_, ?_, ?_, ?_, ?_, ?_, ?_, ?_, ?_, ?_, ?_, ?_, ?_, ?_, ?_, ?_, ?_, ?_, ?_, ?_, ?_, ?_, ?_⟩ <;>
    (unfold superviseTakes; dsimp only; (repeat' split) <;> simp)

@[simp] theorem judgeDescriptor_frame (i : SlotId) (data : List Byte) (s : State) :
    (judgeDescriptor i data s).pins = s.pins ∧ (judgeDescriptor i data s).windows = s.windows ∧
    (judgeDescriptor i data s).pages = s.pages ∧ (judgeDescriptor i data s).xfer = s.xfer ∧
    (judgeDescriptor i data s).ctrl = s.ctrl ∧ (judgeDescriptor i data s).arb = s.arb ∧
    (judgeDescriptor i data s).hold = s.hold ∧ (judgeDescriptor i data s).params = s.params ∧
    (judgeDescriptor i data s).stamp = s.stamp ∧ (judgeDescriptor i data s).modules = s.modules ∧
    (judgeDescriptor i data s).pending = s.pending ∧ (judgeDescriptor i data s).link.phase = s.link.phase ∧
    (judgeDescriptor i data s).link.resetTaken = s.link.resetTaken ∧
    (judgeDescriptor i data s).link.session = s.link.session ∧
    (judgeDescriptor i data s).link.framer = s.link.framer ∧
    (judgeDescriptor i data s).link.lowRun = s.link.lowRun ∧
    (judgeDescriptor i data s).link.unreplied = s.link.unreplied ∧
    (judgeDescriptor i data s).link.cache = s.link.cache ∧
    (judgeDescriptor i data s).link.overload = s.link.overload ∧
    (judgeDescriptor i data s).link.linkUp = s.link.linkUp ∧
    (judgeDescriptor i data s).link.noticeCounter = s.link.noticeCounter ∧
    (judgeDescriptor i data s).link.transmitter = s.link.transmitter ∧
    (judgeDescriptor i data s).link.rate = s.link.rate ∧ (judgeDescriptor i data s).inb.posts = s.inb.posts ∧
    (judgeDescriptor i data s).inb.reserved = s.inb.reserved ∧
    (judgeDescriptor i data s).inb.service = s.inb.service ∧
    (judgeDescriptor i data s).inb.pointer = s.inb.pointer ∧
    (judgeDescriptor i data s).inb.credits = s.inb.credits ∧ (judgeDescriptor i data s).inb.masked = s.inb.masked ∧
    (judgeDescriptor i data s).inb.nextNumber = s.inb.nextNumber ∧
    (judgeDescriptor i data s).notices.holdEnd = s.notices.holdEnd ∧
    (judgeDescriptor i data s).notices.slotEnabled = s.notices.slotEnabled ∧
    (judgeDescriptor i data s).notices.faultEnabled = s.notices.faultEnabled ∧
    (judgeDescriptor i data s).notices.holdEnabled = s.notices.holdEnabled := by
  refine ⟨?_, ?_, ?_, ?_, ?_, ?_, ?_, ?_, ?_, ?_, ?_, ?_, ?_, ?_, ?_, ?_, ?_, ?_, ?_, ?_, ?_, ?_, ?_, ?_, ?_, ?_, ?_, ?_, ?_, ?_, ?_, ?_, ?_, ?_⟩ <;>
    (simp only [judgeDescriptor]; split <;> simp)

@[simp] theorem superviseResult_frame (i : SlotId) (r : Result) (data : List Byte) (s : State) :
    (superviseResult i r data s).pins = s.pins ∧ (superviseResult i r data s).windows = s.windows ∧
    (superviseResult i r data s).pages = s.pages ∧ (superviseResult i r data s).xfer = s.xfer ∧
    (superviseResult i r data s).ctrl = s.ctrl ∧ (superviseResult i r data s).arb = s.arb ∧
    (superviseResult i r data s).hold = s.hold ∧ (superviseResult i r data s).params = s.params ∧
    (superviseResult i r data s).stamp = s.stamp ∧ (superviseResult i r data s).modules = s.modules ∧
    (superviseResult i r data s).pending = s.pending ∧ (superviseResult i r data s).link.phase = s.link.phase ∧
    (superviseResult i r data s).link.resetTaken = s.link.resetTaken ∧
    (superviseResult i r data s).link.session = s.link.session ∧
    (superviseResult i r data s).link.framer = s.link.framer ∧
    (superviseResult i r data s).link.lowRun = s.link.lowRun ∧
    (superviseResult i r data s).link.unreplied = s.link.unreplied ∧
    (superviseResult i r data s).link.cache = s.link.cache ∧
    (superviseResult i r data s).link.overload = s.link.overload ∧
    (superviseResult i r data s).link.linkUp = s.link.linkUp ∧
    (superviseResult i r data s).link.noticeCounter = s.link.noticeCounter ∧
    (superviseResult i r data s).link.transmitter = s.link.transmitter ∧
    (superviseResult i r data s).link.rate = s.link.rate ∧ (superviseResult i r data s).inb.posts = s.inb.posts ∧
    (superviseResult i r data s).inb.reserved = s.inb.reserved ∧
    (superviseResult i r data s).inb.service = s.inb.service ∧
    (superviseResult i r data s).inb.pointer = s.inb.pointer ∧
    (superviseResult i r data s).inb.credits = s.inb.credits ∧
    (superviseResult i r data s).inb.masked = s.inb.masked ∧
    (superviseResult i r data s).inb.nextNumber = s.inb.nextNumber ∧
    (superviseResult i r data s).notices.holdEnd = s.notices.holdEnd ∧
    (superviseResult i r data s).notices.slotEnabled = s.notices.slotEnabled ∧
    (superviseResult i r data s).notices.faultEnabled = s.notices.faultEnabled ∧
    (superviseResult i r data s).notices.holdEnabled = s.notices.holdEnabled := by
  refine ⟨?_, ?_, ?_, ?_, ?_, ?_, ?_, ?_, ?_, ?_, ?_, ?_, ?_, ?_, ?_, ?_, ?_, ?_, ?_, ?_, ?_, ?_, ?_, ?_, ?_, ?_, ?_, ?_, ?_, ?_, ?_, ?_, ?_, ?_⟩ <;>
    (unfold superviseResult; (repeat' split) <;> simp)

end Sys2Proof.Machine
end

