-- ==== Sys2Proof/Laws/Inbound.lean ====
section
/-! SUPPORT. The inbound engine's operations. -/

namespace Sys2Proof.Machine

@[simp] theorem roomEvent_frame (s : State) :
    (roomEvent s).pins = s.pins ∧ (roomEvent s).windows = s.windows ∧ (roomEvent s).pages = s.pages ∧
    (roomEvent s).xfer = s.xfer ∧ (roomEvent s).ctrl = s.ctrl ∧ (roomEvent s).arb = s.arb ∧
    (roomEvent s).sup = s.sup ∧ (roomEvent s).hold = s.hold ∧ (roomEvent s).faults = s.faults ∧
    (roomEvent s).notices = s.notices ∧ (roomEvent s).params = s.params ∧ (roomEvent s).stamp = s.stamp ∧
    (roomEvent s).modules = s.modules ∧ (roomEvent s).pending = s.pending ∧ (roomEvent s).link = s.link ∧
    (roomEvent s).inb.posts = s.inb.posts ∧ (roomEvent s).inb.reserved = s.inb.reserved ∧
    (roomEvent s).inb.service = s.inb.service ∧ (roomEvent s).inb.pointer = s.inb.pointer ∧
    (roomEvent s).inb.credits = s.inb.credits ∧ (roomEvent s).inb.masked = s.inb.masked ∧
    (roomEvent s).inb.nextNumber = s.inb.nextNumber ∧ (roomEvent s).inb.backOff = s.inb.backOff :=
  ⟨rfl, rfl, rfl, rfl, rfl, rfl, rfl, rfl, rfl, rfl, rfl, rfl, rfl, rfl, rfl, rfl, rfl, rfl, rfl, rfl, rfl, rfl, rfl⟩

@[simp] theorem endService_frame (s : State) :
    (endService s).pins = s.pins ∧ (endService s).windows = s.windows ∧ (endService s).pages = s.pages ∧
    (endService s).xfer = s.xfer ∧ (endService s).ctrl = s.ctrl ∧ (endService s).arb = s.arb ∧
    (endService s).sup = s.sup ∧ (endService s).hold = s.hold ∧ (endService s).faults = s.faults ∧
    (endService s).notices = s.notices ∧ (endService s).params = s.params ∧ (endService s).stamp = s.stamp ∧
    (endService s).modules = s.modules ∧ (endService s).pending = s.pending ∧ (endService s).link = s.link ∧
    (endService s).inb.posts = s.inb.posts ∧ (endService s).inb.reserved = s.inb.reserved ∧
    (endService s).inb.pointer = s.inb.pointer ∧ (endService s).inb.credits = s.inb.credits ∧
    (endService s).inb.masked = s.inb.masked ∧ (endService s).inb.nextNumber = s.inb.nextNumber ∧
    (endService s).inb.backOff = s.inb.backOff ∧ (endService s).inb.roomWait = s.inb.roomWait :=
  ⟨rfl, rfl, rfl, rfl, rfl, rfl, rfl, rfl, rfl, rfl, rfl, rfl, rfl, rfl, rfl, rfl, rfl, rfl, rfl, rfl, rfl, rfl, rfl⟩

@[simp] theorem setService_frame (v : Service) (s : State) :
    (setService v s).pins = s.pins ∧ (setService v s).windows = s.windows ∧ (setService v s).pages = s.pages ∧
    (setService v s).xfer = s.xfer ∧ (setService v s).ctrl = s.ctrl ∧ (setService v s).arb = s.arb ∧
    (setService v s).sup = s.sup ∧ (setService v s).hold = s.hold ∧ (setService v s).faults = s.faults ∧
    (setService v s).notices = s.notices ∧ (setService v s).params = s.params ∧ (setService v s).stamp = s.stamp ∧
    (setService v s).modules = s.modules ∧ (setService v s).pending = s.pending ∧ (setService v s).link = s.link ∧
    (setService v s).inb.posts = s.inb.posts ∧ (setService v s).inb.reserved = s.inb.reserved ∧
    (setService v s).inb.pointer = s.inb.pointer ∧ (setService v s).inb.credits = s.inb.credits ∧
    (setService v s).inb.masked = s.inb.masked ∧ (setService v s).inb.nextNumber = s.inb.nextNumber ∧
    (setService v s).inb.backOff = s.inb.backOff ∧ (setService v s).inb.roomWait = s.inb.roomWait :=
  ⟨rfl, rfl, rfl, rfl, rfl, rfl, rfl, rfl, rfl, rfl, rfl, rfl, rfl, rfl, rfl, rfl, rfl, rfl, rfl, rfl, rfl, rfl, rfl⟩

@[simp] theorem releaseReservation_frame (s : State) :
    (releaseReservation s).pins = s.pins ∧ (releaseReservation s).windows = s.windows ∧
    (releaseReservation s).pages = s.pages ∧ (releaseReservation s).xfer = s.xfer ∧
    (releaseReservation s).ctrl = s.ctrl ∧ (releaseReservation s).arb = s.arb ∧
    (releaseReservation s).sup = s.sup ∧ (releaseReservation s).hold = s.hold ∧
    (releaseReservation s).faults = s.faults ∧ (releaseReservation s).notices = s.notices ∧
    (releaseReservation s).params = s.params ∧ (releaseReservation s).stamp = s.stamp ∧
    (releaseReservation s).modules = s.modules ∧ (releaseReservation s).pending = s.pending ∧
    (releaseReservation s).link = s.link ∧ (releaseReservation s).inb.posts = s.inb.posts ∧
    (releaseReservation s).inb.service = s.inb.service ∧ (releaseReservation s).inb.pointer = s.inb.pointer ∧
    (releaseReservation s).inb.credits = s.inb.credits ∧ (releaseReservation s).inb.masked = s.inb.masked ∧
    (releaseReservation s).inb.nextNumber = s.inb.nextNumber ∧ (releaseReservation s).inb.backOff = s.inb.backOff := by
  refine ⟨?_, ?_, ?_, ?_, ?_, ?_, ?_, ?_, ?_, ?_, ?_, ?_, ?_, ?_, ?_, ?_, ?_, ?_, ?_, ?_, ?_, ?_⟩ <;>
    (simp only [releaseReservation]; split <;> simp)

@[simp] theorem dropService_frame (s : State) :
    (dropService s).pins = s.pins ∧ (dropService s).windows = s.windows ∧ (dropService s).pages = s.pages ∧
    (dropService s).xfer = s.xfer ∧ (dropService s).ctrl = s.ctrl ∧ (dropService s).arb = s.arb ∧
    (dropService s).sup = s.sup ∧ (dropService s).hold = s.hold ∧ (dropService s).faults = s.faults ∧
    (dropService s).notices = s.notices ∧ (dropService s).params = s.params ∧ (dropService s).stamp = s.stamp ∧
    (dropService s).modules = s.modules ∧ (dropService s).pending = s.pending ∧ (dropService s).link = s.link ∧
    (dropService s).inb.posts = s.inb.posts ∧ (dropService s).inb.pointer = s.inb.pointer ∧
    (dropService s).inb.credits = s.inb.credits ∧ (dropService s).inb.masked = s.inb.masked ∧
    (dropService s).inb.nextNumber = s.inb.nextNumber ∧ (dropService s).inb.backOff = s.inb.backOff := by
  simp [dropService]

@[simp] theorem startBackOff_frame (i : SlotId) (s : State) :
    (startBackOff i s).pins = s.pins ∧ (startBackOff i s).windows = s.windows ∧
    (startBackOff i s).pages = s.pages ∧ (startBackOff i s).xfer = s.xfer ∧ (startBackOff i s).ctrl = s.ctrl ∧
    (startBackOff i s).arb = s.arb ∧ (startBackOff i s).sup = s.sup ∧ (startBackOff i s).hold = s.hold ∧
    (startBackOff i s).faults = s.faults ∧ (startBackOff i s).notices = s.notices ∧
    (startBackOff i s).params = s.params ∧ (startBackOff i s).stamp = s.stamp ∧
    (startBackOff i s).modules = s.modules ∧ (startBackOff i s).pending = s.pending ∧
    (startBackOff i s).link = s.link ∧ (startBackOff i s).inb.posts = s.inb.posts ∧
    (startBackOff i s).inb.reserved = s.inb.reserved ∧ (startBackOff i s).inb.service = s.inb.service ∧
    (startBackOff i s).inb.pointer = s.inb.pointer ∧ (startBackOff i s).inb.credits = s.inb.credits ∧
    (startBackOff i s).inb.masked = s.inb.masked ∧ (startBackOff i s).inb.nextNumber = s.inb.nextNumber ∧
    (startBackOff i s).inb.roomWait = s.inb.roomWait := by
  refine ⟨?_, ?_, ?_, ?_, ?_, ?_, ?_, ?_, ?_, ?_, ?_, ?_, ?_, ?_, ?_, ?_, ?_, ?_, ?_, ?_, ?_, ?_, ?_⟩ <;>
    (simp only [startBackOff]; split <;> simp)

@[simp] theorem inboundRecord_frame (v : Service) (code : FaultCode) (addr : ModAddr) (headerRead : Bool) (s : State) :
    (inboundRecord v code addr headerRead s).pins = s.pins ∧
    (inboundRecord v code addr headerRead s).windows = s.windows ∧
    (inboundRecord v code addr headerRead s).pages = s.pages ∧
    (inboundRecord v code addr headerRead s).xfer = s.xfer ∧
    (inboundRecord v code addr headerRead s).ctrl = s.ctrl ∧ (inboundRecord v code addr headerRead s).arb = s.arb ∧
    (inboundRecord v code addr headerRead s).sup = s.sup ∧ (inboundRecord v code addr headerRead s).hold = s.hold ∧
    (inboundRecord v code addr headerRead s).inb = s.inb ∧
    (inboundRecord v code addr headerRead s).notices = s.notices ∧
    (inboundRecord v code addr headerRead s).params = s.params ∧
    (inboundRecord v code addr headerRead s).stamp = s.stamp ∧
    (inboundRecord v code addr headerRead s).modules = s.modules ∧
    (inboundRecord v code addr headerRead s).pending = s.pending ∧
    (inboundRecord v code addr headerRead s).link = s.link :=
  ⟨rfl, rfl, rfl, rfl, rfl, rfl, rfl, rfl, rfl, rfl, rfl, rfl, rfl, rfl, rfl⟩

@[simp] theorem failPost_frame (v : Service) (r : Result) (addr : ModAddr) (s : State) :
    (failPost v r addr s).pins = s.pins ∧ (failPost v r addr s).windows = s.windows ∧
    (failPost v r addr s).pages = s.pages ∧ (failPost v r addr s).xfer = s.xfer ∧
    (failPost v r addr s).ctrl = s.ctrl ∧ (failPost v r addr s).arb = s.arb ∧ (failPost v r addr s).sup = s.sup ∧
    (failPost v r addr s).hold = s.hold ∧ (failPost v r addr s).notices = s.notices ∧
    (failPost v r addr s).params = s.params ∧ (failPost v r addr s).stamp = s.stamp ∧
    (failPost v r addr s).modules = s.modules ∧ (failPost v r addr s).pending = s.pending ∧
    (failPost v r addr s).link = s.link ∧ (failPost v r addr s).inb.posts = s.inb.posts ∧
    (failPost v r addr s).inb.pointer = s.inb.pointer ∧ (failPost v r addr s).inb.credits = s.inb.credits ∧
    (failPost v r addr s).inb.masked = s.inb.masked ∧ (failPost v r addr s).inb.nextNumber = s.inb.nextNumber := by
  simp [failPost]

@[simp] theorem judgeHeader_frame (v : Service) (data : List Byte) (s : State) :
    (judgeHeader v data s).pins = s.pins ∧ (judgeHeader v data s).windows = s.windows ∧
    (judgeHeader v data s).pages = s.pages ∧ (judgeHeader v data s).xfer = s.xfer ∧
    (judgeHeader v data s).ctrl = s.ctrl ∧ (judgeHeader v data s).arb = s.arb ∧
    (judgeHeader v data s).sup = s.sup ∧ (judgeHeader v data s).hold = s.hold ∧
    (judgeHeader v data s).notices = s.notices ∧ (judgeHeader v data s).params = s.params ∧
    (judgeHeader v data s).stamp = s.stamp ∧ (judgeHeader v data s).modules = s.modules ∧
    (judgeHeader v data s).pending = s.pending ∧ (judgeHeader v data s).link = s.link ∧
    (judgeHeader v data s).inb.posts = s.inb.posts ∧ (judgeHeader v data s).inb.pointer = s.inb.pointer ∧
    (judgeHeader v data s).inb.credits = s.inb.credits ∧ (judgeHeader v data s).inb.masked = s.inb.masked ∧
    (judgeHeader v data s).inb.nextNumber = s.inb.nextNumber := by
  refine ⟨?_, ?_, ?_, ?_, ?_, ?_, ?_, ?_, ?_, ?_, ?_, ?_, ?_, ?_, ?_, ?_, ?_, ?_, ?_⟩ <;>
    (unfold judgeHeader; dsimp only; (repeat' split) <;> simp)

@[simp] theorem takePost_frame (v : Service) (s : State) :
    (takePost v s).pins = s.pins ∧ (takePost v s).windows = s.windows ∧ (takePost v s).pages = s.pages ∧
    (takePost v s).xfer = s.xfer ∧ (takePost v s).ctrl = s.ctrl ∧ (takePost v s).arb = s.arb ∧
    (takePost v s).sup = s.sup ∧ (takePost v s).hold = s.hold ∧ (takePost v s).faults = s.faults ∧
    (takePost v s).notices = s.notices ∧ (takePost v s).params = s.params ∧ (takePost v s).stamp = s.stamp ∧
    (takePost v s).modules = s.modules ∧ (takePost v s).pending = s.pending ∧ (takePost v s).link = s.link ∧
    (takePost v s).inb.pointer = s.inb.pointer ∧ (takePost v s).inb.credits = s.inb.credits ∧
    (takePost v s).inb.masked = s.inb.masked ∧ (takePost v s).inb.backOff = s.inb.backOff ∧
    (takePost v s).inb.roomWait = s.inb.roomWait :=
  ⟨rfl, rfl, rfl, rfl, rfl, rfl, rfl, rfl, rfl, rfl, rfl, rfl, rfl, rfl, rfl, rfl, rfl, rfl, rfl, rfl⟩

@[simp] theorem serviceResult_frame (v : Service) (r : Result) (data : List Byte) (s : State) :
    (serviceResult v r data s).pins = s.pins ∧ (serviceResult v r data s).windows = s.windows ∧
    (serviceResult v r data s).pages = s.pages ∧ (serviceResult v r data s).xfer = s.xfer ∧
    (serviceResult v r data s).ctrl = s.ctrl ∧ (serviceResult v r data s).arb = s.arb ∧
    (serviceResult v r data s).sup = s.sup ∧ (serviceResult v r data s).hold = s.hold ∧
    (serviceResult v r data s).notices = s.notices ∧ (serviceResult v r data s).params = s.params ∧
    (serviceResult v r data s).stamp = s.stamp ∧ (serviceResult v r data s).modules = s.modules ∧
    (serviceResult v r data s).pending = s.pending ∧ (serviceResult v r data s).link = s.link ∧
    (serviceResult v r data s).inb.pointer = s.inb.pointer ∧
    (serviceResult v r data s).inb.credits = s.inb.credits ∧ (serviceResult v r data s).inb.masked = s.inb.masked := by
  refine ⟨?_, ?_, ?_, ?_, ?_, ?_, ?_, ?_, ?_, ?_, ?_, ?_, ?_, ?_, ?_, ?_, ?_⟩ <;>
    (unfold serviceResult; (repeat' split) <;> simp)

@[simp] theorem inboundResult_frame (r : Result) (data : List Byte) (s : State) :
    (inboundResult r data s).pins = s.pins ∧ (inboundResult r data s).windows = s.windows ∧
    (inboundResult r data s).pages = s.pages ∧ (inboundResult r data s).xfer = s.xfer ∧
    (inboundResult r data s).ctrl = s.ctrl ∧ (inboundResult r data s).arb = s.arb ∧
    (inboundResult r data s).sup = s.sup ∧ (inboundResult r data s).hold = s.hold ∧
    (inboundResult r data s).notices = s.notices ∧ (inboundResult r data s).params = s.params ∧
    (inboundResult r data s).stamp = s.stamp ∧ (inboundResult r data s).modules = s.modules ∧
    (inboundResult r data s).pending = s.pending ∧ (inboundResult r data s).link = s.link ∧
    (inboundResult r data s).inb.pointer = s.inb.pointer ∧ (inboundResult r data s).inb.credits = s.inb.credits ∧
    (inboundResult r data s).inb.masked = s.inb.masked := by
  refine ⟨?_, ?_, ?_, ?_, ?_, ?_, ?_, ?_, ?_, ?_, ?_, ?_, ?_, ?_, ?_, ?_, ?_⟩ <;>
    (simp only [inboundResult]; split <;> simp)

@[simp] theorem selectService_frame (i : SlotId) (s : State) :
    (selectService i s).pins = s.pins ∧ (selectService i s).windows = s.windows ∧
    (selectService i s).pages = s.pages ∧ (selectService i s).xfer = s.xfer ∧ (selectService i s).ctrl = s.ctrl ∧
    (selectService i s).arb = s.arb ∧ (selectService i s).sup = s.sup ∧ (selectService i s).hold = s.hold ∧
    (selectService i s).faults = s.faults ∧ (selectService i s).notices = s.notices ∧
    (selectService i s).params = s.params ∧ (selectService i s).stamp = s.stamp ∧
    (selectService i s).modules = s.modules ∧ (selectService i s).pending = s.pending ∧
    (selectService i s).link = s.link ∧ (selectService i s).inb.posts = s.inb.posts ∧
    (selectService i s).inb.reserved = s.inb.reserved ∧ (selectService i s).inb.credits = s.inb.credits ∧
    (selectService i s).inb.masked = s.inb.masked ∧ (selectService i s).inb.nextNumber = s.inb.nextNumber ∧
    (selectService i s).inb.backOff = s.inb.backOff ∧ (selectService i s).inb.roomWait = s.inb.roomWait :=
  ⟨rfl, rfl, rfl, rfl, rfl, rfl, rfl, rfl, rfl, rfl, rfl, rfl, rfl, rfl, rfl, rfl, rfl, rfl, rfl, rfl, rfl, rfl⟩

end Sys2Proof.Machine
end

