-- ==== Sys2Proof/Laws/Transfers.lean ====
section
/-! SUPPORT. The transfer engine's operations. -/

namespace Sys2Proof.Machine

@[simp] theorem markPage_frame (entry : Option Nat) (referenced written : Bool) (s : State) :
    (markPage entry referenced written s).pins = s.pins ∧
    (markPage entry referenced written s).windows = s.windows ∧
    (markPage entry referenced written s).xfer = s.xfer ∧ (markPage entry referenced written s).ctrl = s.ctrl ∧
    (markPage entry referenced written s).arb = s.arb ∧ (markPage entry referenced written s).sup = s.sup ∧
    (markPage entry referenced written s).hold = s.hold ∧ (markPage entry referenced written s).inb = s.inb ∧
    (markPage entry referenced written s).faults = s.faults ∧
    (markPage entry referenced written s).notices = s.notices ∧
    (markPage entry referenced written s).params = s.params ∧
    (markPage entry referenced written s).stamp = s.stamp ∧
    (markPage entry referenced written s).modules = s.modules ∧
    (markPage entry referenced written s).pending = s.pending ∧ (markPage entry referenced written s).link = s.link := by
  refine ⟨?_, ?_, ?_, ?_, ?_, ?_, ?_, ?_, ?_, ?_, ?_, ?_, ?_, ?_, ?_⟩ <;>
    (simp only [markPage]; split <;> simp)

@[simp] theorem postedFault_frame (t : Transfer) (st : Status) (place : Option (SlotId × ModAddr)) (s : State) :
    (postedFault t st place s).pins = s.pins ∧ (postedFault t st place s).windows = s.windows ∧
    (postedFault t st place s).pages = s.pages ∧ (postedFault t st place s).ctrl = s.ctrl ∧
    (postedFault t st place s).arb = s.arb ∧ (postedFault t st place s).sup = s.sup ∧
    (postedFault t st place s).hold = s.hold ∧ (postedFault t st place s).inb = s.inb ∧
    (postedFault t st place s).notices = s.notices ∧ (postedFault t st place s).params = s.params ∧
    (postedFault t st place s).stamp = s.stamp ∧ (postedFault t st place s).modules = s.modules ∧
    (postedFault t st place s).pending = s.pending ∧ (postedFault t st place s).link = s.link ∧
    (postedFault t st place s).xfer.queue = s.xfer.queue ∧ (postedFault t st place s).xfer.pair = s.xfer.pair :=
  ⟨rfl, rfl, rfl, rfl, rfl, rfl, rfl, rfl, rfl, rfl, rfl, rfl, rfl, rfl, rfl, rfl⟩

@[simp] theorem answerTransfer_frame (t : Transfer) (o : XferEnd) (info : SwapInfo) (s : State) :
    (answerTransfer t o info s).pins = s.pins ∧ (answerTransfer t o info s).windows = s.windows ∧
    (answerTransfer t o info s).pages = s.pages ∧ (answerTransfer t o info s).ctrl = s.ctrl ∧
    (answerTransfer t o info s).arb = s.arb ∧ (answerTransfer t o info s).sup = s.sup ∧
    (answerTransfer t o info s).hold = s.hold ∧ (answerTransfer t o info s).inb = s.inb ∧
    (answerTransfer t o info s).notices = s.notices ∧ (answerTransfer t o info s).params = s.params ∧
    (answerTransfer t o info s).stamp = s.stamp ∧ (answerTransfer t o info s).modules = s.modules ∧
    (answerTransfer t o info s).pending = s.pending ∧ (answerTransfer t o info s).link.phase = s.link.phase ∧
    (answerTransfer t o info s).link.resetTaken = s.link.resetTaken ∧
    (answerTransfer t o info s).link.session = s.link.session ∧
    (answerTransfer t o info s).link.framer = s.link.framer ∧
    (answerTransfer t o info s).link.lowRun = s.link.lowRun ∧
    (answerTransfer t o info s).link.unreplied = s.link.unreplied ∧
    (answerTransfer t o info s).link.cache = s.link.cache ∧
    (answerTransfer t o info s).link.overload = s.link.overload ∧
    (answerTransfer t o info s).link.linkUp = s.link.linkUp ∧
    (answerTransfer t o info s).link.noticeCounter = s.link.noticeCounter ∧
    (answerTransfer t o info s).link.transmitter = s.link.transmitter ∧
    (answerTransfer t o info s).link.rate = s.link.rate ∧ (answerTransfer t o info s).xfer.queue = s.xfer.queue ∧
    (answerTransfer t o info s).xfer.pair = s.xfer.pair := by
  refine ⟨?_, ?_, ?_, ?_, ?_, ?_, ?_, ?_, ?_, ?_, ?_, ?_, ?_, ?_, ?_, ?_, ?_, ?_, ?_, ?_, ?_, ?_, ?_, ?_, ?_, ?_, ?_⟩ <;>
    (unfold answerTransfer; (repeat' split) <;> simp)

@[simp] theorem setQueue_frame (q : List QEntry) (s : State) :
    (setQueue q s).pins = s.pins ∧ (setQueue q s).windows = s.windows ∧ (setQueue q s).pages = s.pages ∧
    (setQueue q s).ctrl = s.ctrl ∧ (setQueue q s).arb = s.arb ∧ (setQueue q s).sup = s.sup ∧
    (setQueue q s).hold = s.hold ∧ (setQueue q s).inb = s.inb ∧ (setQueue q s).faults = s.faults ∧
    (setQueue q s).notices = s.notices ∧ (setQueue q s).params = s.params ∧ (setQueue q s).stamp = s.stamp ∧
    (setQueue q s).modules = s.modules ∧ (setQueue q s).pending = s.pending ∧ (setQueue q s).link = s.link ∧
    (setQueue q s).xfer.postedFailures = s.xfer.postedFailures ∧ (setQueue q s).xfer.pair = s.xfer.pair :=
  ⟨rfl, rfl, rfl, rfl, rfl, rfl, rfl, rfl, rfl, rfl, rfl, rfl, rfl, rfl, rfl, rfl, rfl⟩

@[simp] theorem answerFence_frame (r : ReqId) (s : State) :
    (answerFence r s).pins = s.pins ∧ (answerFence r s).windows = s.windows ∧ (answerFence r s).pages = s.pages ∧
    (answerFence r s).ctrl = s.ctrl ∧ (answerFence r s).arb = s.arb ∧ (answerFence r s).sup = s.sup ∧
    (answerFence r s).hold = s.hold ∧ (answerFence r s).inb = s.inb ∧ (answerFence r s).faults = s.faults ∧
    (answerFence r s).notices = s.notices ∧ (answerFence r s).params = s.params ∧
    (answerFence r s).stamp = s.stamp ∧ (answerFence r s).modules = s.modules ∧
    (answerFence r s).pending = s.pending ∧ (answerFence r s).link.phase = s.link.phase ∧
    (answerFence r s).link.resetTaken = s.link.resetTaken ∧ (answerFence r s).link.session = s.link.session ∧
    (answerFence r s).link.framer = s.link.framer ∧
    (answerFence r s).link.lowRun = s.link.lowRun ∧ (answerFence r s).link.unreplied = s.link.unreplied ∧
    (answerFence r s).link.cache = s.link.cache ∧ (answerFence r s).link.overload = s.link.overload ∧
    (answerFence r s).link.linkUp = s.link.linkUp ∧ (answerFence r s).link.noticeCounter = s.link.noticeCounter ∧
    (answerFence r s).link.transmitter = s.link.transmitter ∧ (answerFence r s).link.rate = s.link.rate ∧
    (answerFence r s).xfer.queue = s.xfer.queue ∧ (answerFence r s).xfer.pair = s.xfer.pair := by
  simp [answerFence]

@[simp] theorem fencesAtHead_frame (q : List QEntry) (s : State) :
    (fencesAtHead q s).pins = s.pins ∧ (fencesAtHead q s).windows = s.windows ∧
    (fencesAtHead q s).pages = s.pages ∧ (fencesAtHead q s).ctrl = s.ctrl ∧ (fencesAtHead q s).arb = s.arb ∧
    (fencesAtHead q s).sup = s.sup ∧ (fencesAtHead q s).hold = s.hold ∧ (fencesAtHead q s).inb = s.inb ∧
    (fencesAtHead q s).faults = s.faults ∧ (fencesAtHead q s).notices = s.notices ∧
    (fencesAtHead q s).params = s.params ∧ (fencesAtHead q s).stamp = s.stamp ∧
    (fencesAtHead q s).modules = s.modules ∧ (fencesAtHead q s).pending = s.pending ∧
    (fencesAtHead q s).link.phase = s.link.phase ∧ (fencesAtHead q s).link.resetTaken = s.link.resetTaken ∧
    (fencesAtHead q s).link.session = s.link.session ∧ (fencesAtHead q s).link.framer = s.link.framer ∧
    (fencesAtHead q s).link.lowRun = s.link.lowRun ∧
    (fencesAtHead q s).link.unreplied = s.link.unreplied ∧ (fencesAtHead q s).link.cache = s.link.cache ∧
    (fencesAtHead q s).link.overload = s.link.overload ∧ (fencesAtHead q s).link.linkUp = s.link.linkUp ∧
    (fencesAtHead q s).link.noticeCounter = s.link.noticeCounter ∧
    (fencesAtHead q s).link.transmitter = s.link.transmitter ∧ (fencesAtHead q s).link.rate = s.link.rate ∧
    (fencesAtHead q s).xfer.pair = s.xfer.pair := by
  induction q generalizing s with
  | nil => simp [fencesAtHead]
  | cons e q ih =>
    cases e with
    | transfer t => simp [fencesAtHead]
    | fence r => simpa [fencesAtHead] using ih (answerFence r (setQueue q s))

@[simp] theorem newHead_frame (s : State) :
    (newHead s).pins = s.pins ∧ (newHead s).windows = s.windows ∧ (newHead s).pages = s.pages ∧
    (newHead s).ctrl = s.ctrl ∧ (newHead s).arb = s.arb ∧ (newHead s).sup = s.sup ∧ (newHead s).hold = s.hold ∧
    (newHead s).inb = s.inb ∧ (newHead s).faults = s.faults ∧ (newHead s).notices = s.notices ∧
    (newHead s).params = s.params ∧ (newHead s).stamp = s.stamp ∧ (newHead s).modules = s.modules ∧
    (newHead s).pending = s.pending ∧ (newHead s).link.phase = s.link.phase ∧
    (newHead s).link.resetTaken = s.link.resetTaken ∧ (newHead s).link.session = s.link.session ∧
    (newHead s).link.framer = s.link.framer ∧
    (newHead s).link.lowRun = s.link.lowRun ∧ (newHead s).link.unreplied = s.link.unreplied ∧
    (newHead s).link.cache = s.link.cache ∧ (newHead s).link.overload = s.link.overload ∧
    (newHead s).link.linkUp = s.link.linkUp ∧ (newHead s).link.noticeCounter = s.link.noticeCounter ∧
    (newHead s).link.transmitter = s.link.transmitter ∧ (newHead s).link.rate = s.link.rate ∧
    (newHead s).xfer.pair = s.xfer.pair := by
  simp [newHead]

@[simp] theorem leaveHead_frame (t : Transfer) (o : XferEnd) (info : SwapInfo) (s : State) :
    (leaveHead t o info s).pins = s.pins ∧ (leaveHead t o info s).pages = s.pages ∧
    (leaveHead t o info s).ctrl = s.ctrl ∧ (leaveHead t o info s).arb = s.arb ∧
    (leaveHead t o info s).sup = s.sup ∧ (leaveHead t o info s).hold = s.hold ∧
    (leaveHead t o info s).inb = s.inb ∧ (leaveHead t o info s).notices = s.notices ∧
    (leaveHead t o info s).params = s.params ∧ (leaveHead t o info s).stamp = s.stamp ∧
    (leaveHead t o info s).modules = s.modules ∧ (leaveHead t o info s).pending = s.pending ∧
    (leaveHead t o info s).link.phase = s.link.phase ∧ (leaveHead t o info s).link.resetTaken = s.link.resetTaken ∧
    (leaveHead t o info s).link.session = s.link.session ∧ (leaveHead t o info s).link.framer = s.link.framer ∧
    (leaveHead t o info s).link.lowRun = s.link.lowRun ∧
    (leaveHead t o info s).link.unreplied = s.link.unreplied ∧ (leaveHead t o info s).link.cache = s.link.cache ∧
    (leaveHead t o info s).link.overload = s.link.overload ∧ (leaveHead t o info s).link.linkUp = s.link.linkUp ∧
    (leaveHead t o info s).link.noticeCounter = s.link.noticeCounter ∧
    (leaveHead t o info s).link.transmitter = s.link.transmitter ∧ (leaveHead t o info s).link.rate = s.link.rate ∧
    (leaveHead t o info s).xfer.pair = s.xfer.pair := by
  simp [leaveHead]

@[simp] theorem endHead_frame (t : Transfer) (o : XferEnd) (info : SwapInfo) (s : State) :
    (endHead t o info s).pins = s.pins ∧ (endHead t o info s).pages = s.pages ∧
    (endHead t o info s).ctrl = s.ctrl ∧ (endHead t o info s).arb = s.arb ∧ (endHead t o info s).sup = s.sup ∧
    (endHead t o info s).hold = s.hold ∧ (endHead t o info s).inb = s.inb ∧
    (endHead t o info s).notices = s.notices ∧ (endHead t o info s).params = s.params ∧
    (endHead t o info s).stamp = s.stamp ∧ (endHead t o info s).modules = s.modules ∧
    (endHead t o info s).pending = s.pending ∧ (endHead t o info s).link.phase = s.link.phase ∧
    (endHead t o info s).link.resetTaken = s.link.resetTaken ∧ (endHead t o info s).link.session = s.link.session ∧
    (endHead t o info s).link.framer = s.link.framer ∧
    (endHead t o info s).link.lowRun = s.link.lowRun ∧ (endHead t o info s).link.unreplied = s.link.unreplied ∧
    (endHead t o info s).link.cache = s.link.cache ∧ (endHead t o info s).link.overload = s.link.overload ∧
    (endHead t o info s).link.linkUp = s.link.linkUp ∧
    (endHead t o info s).link.noticeCounter = s.link.noticeCounter ∧
    (endHead t o info s).link.transmitter = s.link.transmitter ∧ (endHead t o info s).link.rate = s.link.rate ∧
    (endHead t o info s).xfer.pair = s.xfer.pair := by
  simp [endHead]

@[simp] theorem setHead_frame (t : Transfer) (s : State) :
    (setHead t s).pins = s.pins ∧ (setHead t s).windows = s.windows ∧ (setHead t s).pages = s.pages ∧
    (setHead t s).ctrl = s.ctrl ∧ (setHead t s).arb = s.arb ∧ (setHead t s).sup = s.sup ∧
    (setHead t s).hold = s.hold ∧ (setHead t s).inb = s.inb ∧ (setHead t s).faults = s.faults ∧
    (setHead t s).notices = s.notices ∧ (setHead t s).params = s.params ∧ (setHead t s).stamp = s.stamp ∧
    (setHead t s).modules = s.modules ∧ (setHead t s).pending = s.pending ∧ (setHead t s).link = s.link ∧
    (setHead t s).xfer.postedFailures = s.xfer.postedFailures ∧ (setHead t s).xfer.pair = s.xfer.pair :=
  ⟨rfl, rfl, rfl, rfl, rfl, rfl, rfl, rfl, rfl, rfl, rfl, rfl, rfl, rfl, rfl, rfl, rfl⟩

@[simp] theorem retryHead_frame (t : Transfer) (place : SlotId × ModAddr) (s : State) :
    (retryHead t place s).pins = s.pins ∧ (retryHead t place s).pages = s.pages ∧
    (retryHead t place s).ctrl = s.ctrl ∧ (retryHead t place s).arb = s.arb ∧ (retryHead t place s).sup = s.sup ∧
    (retryHead t place s).hold = s.hold ∧ (retryHead t place s).inb = s.inb ∧
    (retryHead t place s).notices = s.notices ∧ (retryHead t place s).params = s.params ∧
    (retryHead t place s).stamp = s.stamp ∧ (retryHead t place s).modules = s.modules ∧
    (retryHead t place s).pending = s.pending ∧ (retryHead t place s).link.phase = s.link.phase ∧
    (retryHead t place s).link.resetTaken = s.link.resetTaken ∧
    (retryHead t place s).link.session = s.link.session ∧ (retryHead t place s).link.framer = s.link.framer ∧
    (retryHead t place s).link.lowRun = s.link.lowRun ∧
    (retryHead t place s).link.unreplied = s.link.unreplied ∧ (retryHead t place s).link.cache = s.link.cache ∧
    (retryHead t place s).link.overload = s.link.overload ∧ (retryHead t place s).link.linkUp = s.link.linkUp ∧
    (retryHead t place s).link.noticeCounter = s.link.noticeCounter ∧
    (retryHead t place s).link.transmitter = s.link.transmitter ∧ (retryHead t place s).link.rate = s.link.rate ∧
    (retryHead t place s).xfer.pair = s.xfer.pair := by
  refine ⟨?_, ?_, ?_, ?_, ?_, ?_, ?_, ?_, ?_, ?_, ?_, ?_, ?_, ?_, ?_, ?_, ?_, ?_, ?_, ?_, ?_, ?_, ?_, ?_, ?_⟩ <;>
    (simp only [retryHead]; split <;> simp)

@[simp] theorem segmentResult_frame (t : Transfer) (place : SlotId × ModAddr) (r : Result) (data : List Byte) (s : State) :
    (segmentResult t place r data s).pins = s.pins ∧ (segmentResult t place r data s).pages = s.pages ∧
    (segmentResult t place r data s).ctrl = s.ctrl ∧ (segmentResult t place r data s).arb = s.arb ∧
    (segmentResult t place r data s).sup = s.sup ∧ (segmentResult t place r data s).hold = s.hold ∧
    (segmentResult t place r data s).inb = s.inb ∧ (segmentResult t place r data s).notices = s.notices ∧
    (segmentResult t place r data s).params = s.params ∧ (segmentResult t place r data s).stamp = s.stamp ∧
    (segmentResult t place r data s).modules = s.modules ∧ (segmentResult t place r data s).pending = s.pending ∧
    (segmentResult t place r data s).link.phase = s.link.phase ∧
    (segmentResult t place r data s).link.resetTaken = s.link.resetTaken ∧
    (segmentResult t place r data s).link.session = s.link.session ∧
    (segmentResult t place r data s).link.framer = s.link.framer ∧
    (segmentResult t place r data s).link.lowRun = s.link.lowRun ∧
    (segmentResult t place r data s).link.unreplied = s.link.unreplied ∧
    (segmentResult t place r data s).link.cache = s.link.cache ∧
    (segmentResult t place r data s).link.overload = s.link.overload ∧
    (segmentResult t place r data s).link.linkUp = s.link.linkUp ∧
    (segmentResult t place r data s).link.noticeCounter = s.link.noticeCounter ∧
    (segmentResult t place r data s).link.transmitter = s.link.transmitter ∧
    (segmentResult t place r data s).link.rate = s.link.rate ∧
    (segmentResult t place r data s).xfer.pair = s.xfer.pair := by
  refine ⟨?_, ?_, ?_, ?_, ?_, ?_, ?_, ?_, ?_, ?_, ?_, ?_, ?_, ?_, ?_, ?_, ?_, ?_, ?_, ?_, ?_, ?_, ?_, ?_, ?_⟩ <;>
    (unfold segmentResult; dsimp only; (repeat' split) <;> simp)

@[simp] theorem endPair_frame (p : Pair) (o : XferEnd) (lockUnknown : Bool) (s : State) :
    (endPair p o lockUnknown s).pins = s.pins ∧ (endPair p o lockUnknown s).pages = s.pages ∧
    (endPair p o lockUnknown s).ctrl = s.ctrl ∧ (endPair p o lockUnknown s).sup = s.sup ∧
    (endPair p o lockUnknown s).hold = s.hold ∧ (endPair p o lockUnknown s).inb = s.inb ∧
    (endPair p o lockUnknown s).notices = s.notices ∧ (endPair p o lockUnknown s).params = s.params ∧
    (endPair p o lockUnknown s).stamp = s.stamp ∧ (endPair p o lockUnknown s).modules = s.modules ∧
    (endPair p o lockUnknown s).pending = s.pending ∧ (endPair p o lockUnknown s).link.phase = s.link.phase ∧
    (endPair p o lockUnknown s).link.resetTaken = s.link.resetTaken ∧
    (endPair p o lockUnknown s).link.session = s.link.session ∧
    (endPair p o lockUnknown s).link.framer = s.link.framer ∧
    (endPair p o lockUnknown s).link.lowRun = s.link.lowRun ∧
    (endPair p o lockUnknown s).link.unreplied = s.link.unreplied ∧
    (endPair p o lockUnknown s).link.cache = s.link.cache ∧
    (endPair p o lockUnknown s).link.overload = s.link.overload ∧
    (endPair p o lockUnknown s).link.linkUp = s.link.linkUp ∧
    (endPair p o lockUnknown s).link.noticeCounter = s.link.noticeCounter ∧
    (endPair p o lockUnknown s).link.transmitter = s.link.transmitter ∧
    (endPair p o lockUnknown s).link.rate = s.link.rate ∧ (endPair p o lockUnknown s).arb.waiting = s.arb.waiting ∧
    (endPair p o lockUnknown s).arb.turn = s.arb.turn ∧ (endPair p o lockUnknown s).arb.choice = s.arb.choice := by
  refine ⟨?_, ?_, ?_, ?_, ?_, ?_, ?_, ?_, ?_, ?_, ?_, ?_, ?_, ?_, ?_, ?_, ?_, ?_, ?_, ?_, ?_, ?_, ?_, ?_, ?_, ?_⟩ <;>
    (unfold endPair; dsimp only; (repeat' split) <;> simp)

@[simp] theorem secondResult_frame (p : Pair) (r : Result) (s : State) :
    (secondResult p r s).pins = s.pins ∧ (secondResult p r s).pages = s.pages ∧
    (secondResult p r s).ctrl = s.ctrl ∧ (secondResult p r s).sup = s.sup ∧ (secondResult p r s).hold = s.hold ∧
    (secondResult p r s).inb = s.inb ∧ (secondResult p r s).notices = s.notices ∧
    (secondResult p r s).params = s.params ∧ (secondResult p r s).stamp = s.stamp ∧
    (secondResult p r s).modules = s.modules ∧ (secondResult p r s).pending = s.pending ∧
    (secondResult p r s).link.phase = s.link.phase ∧ (secondResult p r s).link.resetTaken = s.link.resetTaken ∧
    (secondResult p r s).link.session = s.link.session ∧ (secondResult p r s).link.framer = s.link.framer ∧
    (secondResult p r s).link.lowRun = s.link.lowRun ∧
    (secondResult p r s).link.unreplied = s.link.unreplied ∧ (secondResult p r s).link.cache = s.link.cache ∧
    (secondResult p r s).link.overload = s.link.overload ∧ (secondResult p r s).link.linkUp = s.link.linkUp ∧
    (secondResult p r s).link.noticeCounter = s.link.noticeCounter ∧
    (secondResult p r s).link.transmitter = s.link.transmitter ∧ (secondResult p r s).link.rate = s.link.rate ∧
    (secondResult p r s).arb.waiting = s.arb.waiting ∧ (secondResult p r s).arb.turn = s.arb.turn ∧
    (secondResult p r s).arb.choice = s.arb.choice := by
  refine ⟨?_, ?_, ?_, ?_, ?_, ?_, ?_, ?_, ?_, ?_, ?_, ?_, ?_, ?_, ?_, ?_, ?_, ?_, ?_, ?_, ?_, ?_, ?_, ?_, ?_, ?_⟩ <;>
    (unfold secondResult; dsimp only; (repeat' split) <;> simp)

@[simp] theorem sendSecond_frame (p : Pair) (s : State) :
    (sendSecond p s).pins = s.pins ∧ (sendSecond p s).hold = s.hold ∧ (sendSecond p s).params = s.params ∧
    (sendSecond p s).stamp = s.stamp ∧ (sendSecond p s).pending = s.pending ∧
    (sendSecond p s).link.phase = s.link.phase ∧ (sendSecond p s).link.resetTaken = s.link.resetTaken ∧
    (sendSecond p s).link.session = s.link.session ∧ (sendSecond p s).link.framer = s.link.framer ∧
    (sendSecond p s).link.lowRun = s.link.lowRun ∧
    (sendSecond p s).link.unreplied = s.link.unreplied ∧ (sendSecond p s).link.cache = s.link.cache ∧
    (sendSecond p s).link.overload = s.link.overload ∧ (sendSecond p s).link.linkUp = s.link.linkUp ∧
    (sendSecond p s).link.noticeCounter = s.link.noticeCounter ∧
    (sendSecond p s).link.transmitter = s.link.transmitter ∧ (sendSecond p s).link.rate = s.link.rate ∧
    (sendSecond p s).ctrl.readCheck = s.ctrl.readCheck ∧ (sendSecond p s).arb.waiting = s.arb.waiting ∧
    (sendSecond p s).arb.turn = s.arb.turn ∧ (sendSecond p s).arb.choice = s.arb.choice ∧
    (sendSecond p s).inb.posts = s.inb.posts ∧ (sendSecond p s).inb.reserved = s.inb.reserved ∧
    (sendSecond p s).inb.service = s.inb.service ∧ (sendSecond p s).inb.pointer = s.inb.pointer ∧
    (sendSecond p s).inb.credits = s.inb.credits ∧ (sendSecond p s).inb.masked = s.inb.masked ∧
    (sendSecond p s).inb.nextNumber = s.inb.nextNumber ∧ (sendSecond p s).notices.holdEnd = s.notices.holdEnd ∧
    (sendSecond p s).notices.slotEnabled = s.notices.slotEnabled ∧
    (sendSecond p s).notices.faultEnabled = s.notices.faultEnabled ∧
    (sendSecond p s).notices.holdEnabled = s.notices.holdEnabled := by
  refine ⟨?_, ?_, ?_, ?_, ?_, ?_, ?_, ?_, ?_, ?_, ?_, ?_, ?_, ?_, ?_, ?_, ?_, ?_, ?_, ?_, ?_, ?_, ?_, ?_, ?_, ?_, ?_, ?_, ?_, ?_, ?_, ?_⟩ <;>
    (unfold sendSecond; dsimp only; (repeat' split) <;> simp)

@[simp] theorem lockReadResult_frame (p : Pair) (r : Result) (data : List Byte) (s : State) :
    (lockReadResult p r data s).pins = s.pins ∧ (lockReadResult p r data s).hold = s.hold ∧
    (lockReadResult p r data s).params = s.params ∧ (lockReadResult p r data s).stamp = s.stamp ∧
    (lockReadResult p r data s).pending = s.pending ∧ (lockReadResult p r data s).link.phase = s.link.phase ∧
    (lockReadResult p r data s).link.resetTaken = s.link.resetTaken ∧
    (lockReadResult p r data s).link.session = s.link.session ∧
    (lockReadResult p r data s).link.framer = s.link.framer ∧
    (lockReadResult p r data s).link.lowRun = s.link.lowRun ∧
    (lockReadResult p r data s).link.unreplied = s.link.unreplied ∧
    (lockReadResult p r data s).link.cache = s.link.cache ∧
    (lockReadResult p r data s).link.overload = s.link.overload ∧
    (lockReadResult p r data s).link.linkUp = s.link.linkUp ∧
    (lockReadResult p r data s).link.noticeCounter = s.link.noticeCounter ∧
    (lockReadResult p r data s).link.transmitter = s.link.transmitter ∧
    (lockReadResult p r data s).link.rate = s.link.rate ∧
    (lockReadResult p r data s).ctrl.readCheck = s.ctrl.readCheck ∧
    (lockReadResult p r data s).arb.waiting = s.arb.waiting ∧ (lockReadResult p r data s).arb.turn = s.arb.turn ∧
    (lockReadResult p r data s).arb.choice = s.arb.choice ∧ (lockReadResult p r data s).inb.posts = s.inb.posts ∧
    (lockReadResult p r data s).inb.reserved = s.inb.reserved ∧
    (lockReadResult p r data s).inb.service = s.inb.service ∧
    (lockReadResult p r data s).inb.pointer = s.inb.pointer ∧
    (lockReadResult p r data s).inb.credits = s.inb.credits ∧
    (lockReadResult p r data s).inb.masked = s.inb.masked ∧
    (lockReadResult p r data s).inb.nextNumber = s.inb.nextNumber ∧
    (lockReadResult p r data s).notices.holdEnd = s.notices.holdEnd ∧
    (lockReadResult p r data s).notices.slotEnabled = s.notices.slotEnabled ∧
    (lockReadResult p r data s).notices.faultEnabled = s.notices.faultEnabled ∧
    (lockReadResult p r data s).notices.holdEnabled = s.notices.holdEnabled := by
  refine ⟨?_, ?_, ?_, ?_, ?_, ?_, ?_, ?_, ?_, ?_, ?_, ?_, ?_, ?_, ?_, ?_, ?_, ?_, ?_, ?_, ?_, ?_, ?_, ?_, ?_, ?_, ?_, ?_, ?_, ?_, ?_, ?_⟩ <;>
    (unfold lockReadResult; dsimp only; (repeat' split) <;> simp)

@[simp] theorem pairResult_frame (p : Pair) (r : Result) (data : List Byte) (s : State) :
    (pairResult p r data s).pins = s.pins ∧ (pairResult p r data s).hold = s.hold ∧
    (pairResult p r data s).params = s.params ∧ (pairResult p r data s).stamp = s.stamp ∧
    (pairResult p r data s).pending = s.pending ∧ (pairResult p r data s).link.phase = s.link.phase ∧
    (pairResult p r data s).link.resetTaken = s.link.resetTaken ∧
    (pairResult p r data s).link.session = s.link.session ∧ (pairResult p r data s).link.framer = s.link.framer ∧
    (pairResult p r data s).link.lowRun = s.link.lowRun ∧
    (pairResult p r data s).link.unreplied = s.link.unreplied ∧ (pairResult p r data s).link.cache = s.link.cache ∧
    (pairResult p r data s).link.overload = s.link.overload ∧ (pairResult p r data s).link.linkUp = s.link.linkUp ∧
    (pairResult p r data s).link.noticeCounter = s.link.noticeCounter ∧
    (pairResult p r data s).link.transmitter = s.link.transmitter ∧
    (pairResult p r data s).link.rate = s.link.rate ∧ (pairResult p r data s).ctrl.readCheck = s.ctrl.readCheck ∧
    (pairResult p r data s).arb.waiting = s.arb.waiting ∧ (pairResult p r data s).arb.turn = s.arb.turn ∧
    (pairResult p r data s).arb.choice = s.arb.choice ∧ (pairResult p r data s).inb.posts = s.inb.posts ∧
    (pairResult p r data s).inb.reserved = s.inb.reserved ∧ (pairResult p r data s).inb.service = s.inb.service ∧
    (pairResult p r data s).inb.pointer = s.inb.pointer ∧ (pairResult p r data s).inb.credits = s.inb.credits ∧
    (pairResult p r data s).inb.masked = s.inb.masked ∧ (pairResult p r data s).inb.nextNumber = s.inb.nextNumber ∧
    (pairResult p r data s).notices.holdEnd = s.notices.holdEnd ∧
    (pairResult p r data s).notices.slotEnabled = s.notices.slotEnabled ∧
    (pairResult p r data s).notices.faultEnabled = s.notices.faultEnabled ∧
    (pairResult p r data s).notices.holdEnabled = s.notices.holdEnabled := by
  refine ⟨?_, ?_, ?_, ?_, ?_, ?_, ?_, ?_, ?_, ?_, ?_, ?_, ?_, ?_, ?_, ?_, ?_, ?_, ?_, ?_, ?_, ?_, ?_, ?_, ?_, ?_, ?_, ?_, ?_, ?_, ?_, ?_⟩ <;>
    (simp only [pairResult]; split <;> simp)

@[simp] theorem transferResult_frame (t : Tx) (r : Result) (data : List Byte) (s : State) :
    (transferResult t r data s).pins = s.pins ∧ (transferResult t r data s).hold = s.hold ∧
    (transferResult t r data s).params = s.params ∧ (transferResult t r data s).stamp = s.stamp ∧
    (transferResult t r data s).pending = s.pending ∧ (transferResult t r data s).link.phase = s.link.phase ∧
    (transferResult t r data s).link.resetTaken = s.link.resetTaken ∧
    (transferResult t r data s).link.session = s.link.session ∧
    (transferResult t r data s).link.framer = s.link.framer ∧
    (transferResult t r data s).link.lowRun = s.link.lowRun ∧
    (transferResult t r data s).link.unreplied = s.link.unreplied ∧
    (transferResult t r data s).link.cache = s.link.cache ∧
    (transferResult t r data s).link.overload = s.link.overload ∧
    (transferResult t r data s).link.linkUp = s.link.linkUp ∧
    (transferResult t r data s).link.noticeCounter = s.link.noticeCounter ∧
    (transferResult t r data s).link.transmitter = s.link.transmitter ∧
    (transferResult t r data s).link.rate = s.link.rate ∧
    (transferResult t r data s).ctrl.readCheck = s.ctrl.readCheck ∧
    (transferResult t r data s).arb.waiting = s.arb.waiting ∧ (transferResult t r data s).arb.turn = s.arb.turn ∧
    (transferResult t r data s).arb.choice = s.arb.choice ∧ (transferResult t r data s).inb.posts = s.inb.posts ∧
    (transferResult t r data s).inb.reserved = s.inb.reserved ∧
    (transferResult t r data s).inb.service = s.inb.service ∧
    (transferResult t r data s).inb.pointer = s.inb.pointer ∧
    (transferResult t r data s).inb.credits = s.inb.credits ∧
    (transferResult t r data s).inb.masked = s.inb.masked ∧
    (transferResult t r data s).inb.nextNumber = s.inb.nextNumber ∧
    (transferResult t r data s).notices.holdEnd = s.notices.holdEnd ∧
    (transferResult t r data s).notices.slotEnabled = s.notices.slotEnabled ∧
    (transferResult t r data s).notices.faultEnabled = s.notices.faultEnabled ∧
    (transferResult t r data s).notices.holdEnabled = s.notices.holdEnabled := by
  refine ⟨?_, ?_, ?_, ?_, ?_, ?_, ?_, ?_, ?_, ?_, ?_, ?_, ?_, ?_, ?_, ?_, ?_, ?_, ?_, ?_, ?_, ?_, ?_, ?_, ?_, ?_, ?_, ?_, ?_, ?_, ?_, ?_⟩ <;>
    (unfold transferResult; (repeat' split) <;> simp)

end Sys2Proof.Machine
end

