-- ==== Sys2Proof/Laws/Backplane.lean ====
section
/-! SUPPORT. The backplane controller's operations. -/

namespace Sys2Proof.Machine

@[simp] theorem orphanResult_frame (t : Tx) (r : Result) (data : List Byte) (s : State) :
    (orphanResult t r data s).pins = s.pins ∧ (orphanResult t r data s).params = s.params ∧
    (orphanResult t r data s).stamp = s.stamp ∧ (orphanResult t r data s).pending = s.pending ∧
    (orphanResult t r data s).link.phase = s.link.phase ∧
    (orphanResult t r data s).link.resetTaken = s.link.resetTaken ∧
    (orphanResult t r data s).link.session = s.link.session ∧
    (orphanResult t r data s).link.framer = s.link.framer ∧
    (orphanResult t r data s).link.lowRun = s.link.lowRun ∧
    (orphanResult t r data s).link.unreplied = s.link.unreplied ∧
    (orphanResult t r data s).link.cache = s.link.cache ∧
    (orphanResult t r data s).link.overload = s.link.overload ∧
    (orphanResult t r data s).link.linkUp = s.link.linkUp ∧
    (orphanResult t r data s).link.noticeCounter = s.link.noticeCounter ∧
    (orphanResult t r data s).link.transmitter = s.link.transmitter ∧
    (orphanResult t r data s).link.rate = s.link.rate ∧
    (orphanResult t r data s).ctrl.readCheck = s.ctrl.readCheck ∧
    (orphanResult t r data s).arb.waiting = s.arb.waiting ∧ (orphanResult t r data s).arb.turn = s.arb.turn ∧
    (orphanResult t r data s).arb.choice = s.arb.choice ∧ (orphanResult t r data s).hold.state = s.hold.state ∧
    (orphanResult t r data s).hold.acquire = s.hold.acquire ∧ (orphanResult t r data s).hold.limit = s.hold.limit ∧
    (orphanResult t r data s).hold.limitTimer = s.hold.limitTimer ∧
    (orphanResult t r data s).hold.endCause = s.hold.endCause ∧
    (orphanResult t r data s).hold.releaseReply = s.hold.releaseReply ∧
    (orphanResult t r data s).hold.cycles = s.hold.cycles ∧ (orphanResult t r data s).inb.posts = s.inb.posts ∧
    (orphanResult t r data s).inb.reserved = s.inb.reserved ∧
    (orphanResult t r data s).inb.service = s.inb.service ∧ (orphanResult t r data s).inb.pointer = s.inb.pointer ∧
    (orphanResult t r data s).inb.credits = s.inb.credits ∧ (orphanResult t r data s).inb.masked = s.inb.masked ∧
    (orphanResult t r data s).inb.nextNumber = s.inb.nextNumber ∧
    (orphanResult t r data s).notices.holdEnd = s.notices.holdEnd ∧
    (orphanResult t r data s).notices.slotEnabled = s.notices.slotEnabled ∧
    (orphanResult t r data s).notices.faultEnabled = s.notices.faultEnabled ∧
    (orphanResult t r data s).notices.holdEnabled = s.notices.holdEnabled := by
  refine ⟨?_, ?_, ?_, ?_, ?_, ?_, ?_, ?_, ?_, ?_, ?_, ?_, ?_, ?_, ?_, ?_, ?_, ?_, ?_, ?_, ?_, ?_, ?_, ?_, ?_, ?_, ?_, ?_, ?_, ?_, ?_, ?_, ?_, ?_, ?_, ?_, ?_, ?_⟩ <;>
    (simp only [orphanResult]; split <;> simp)

@[simp] theorem deliver_frame (t : Tx) (r : Result) (data : List Byte) (s : State) :
    (deliver t r data s).pins = s.pins ∧ (deliver t r data s).params = s.params ∧
    (deliver t r data s).stamp = s.stamp ∧ (deliver t r data s).pending = s.pending ∧
    (deliver t r data s).link.phase = s.link.phase ∧ (deliver t r data s).link.resetTaken = s.link.resetTaken ∧
    (deliver t r data s).link.session = s.link.session ∧ (deliver t r data s).link.framer = s.link.framer ∧
    (deliver t r data s).link.lowRun = s.link.lowRun ∧
    (deliver t r data s).link.unreplied = s.link.unreplied ∧ (deliver t r data s).link.cache = s.link.cache ∧
    (deliver t r data s).link.overload = s.link.overload ∧ (deliver t r data s).link.linkUp = s.link.linkUp ∧
    (deliver t r data s).link.noticeCounter = s.link.noticeCounter ∧ (deliver t r data s).link.rate = s.link.rate ∧
    (deliver t r data s).ctrl.readCheck = s.ctrl.readCheck ∧ (deliver t r data s).arb.waiting = s.arb.waiting ∧
    (deliver t r data s).arb.turn = s.arb.turn ∧ (deliver t r data s).arb.choice = s.arb.choice ∧
    (deliver t r data s).hold.acquire = s.hold.acquire ∧ (deliver t r data s).inb.pointer = s.inb.pointer ∧
    (deliver t r data s).inb.credits = s.inb.credits ∧ (deliver t r data s).inb.masked = s.inb.masked ∧
    (deliver t r data s).notices.slotEnabled = s.notices.slotEnabled ∧
    (deliver t r data s).notices.faultEnabled = s.notices.faultEnabled ∧
    (deliver t r data s).notices.holdEnabled = s.notices.holdEnabled := by
  refine ⟨?_, ?_, ?_, ?_, ?_, ?_, ?_, ?_, ?_, ?_, ?_, ?_, ?_, ?_, ?_, ?_, ?_, ?_, ?_, ?_, ?_, ?_, ?_, ?_, ?_, ?_⟩ <;>
    (simp only [deliver]; split <;> simp)

@[simp] theorem finishTx_frame (t : Tx) (r : Result) (data : List Byte) (s : State) :
    (finishTx t r data s).pins = s.pins ∧ (finishTx t r data s).params = s.params ∧
    (finishTx t r data s).stamp = s.stamp ∧ (finishTx t r data s).pending = s.pending ∧
    (finishTx t r data s).link.phase = s.link.phase ∧ (finishTx t r data s).link.resetTaken = s.link.resetTaken ∧
    (finishTx t r data s).link.session = s.link.session ∧ (finishTx t r data s).link.framer = s.link.framer ∧
    (finishTx t r data s).link.lowRun = s.link.lowRun ∧
    (finishTx t r data s).link.unreplied = s.link.unreplied ∧ (finishTx t r data s).link.cache = s.link.cache ∧
    (finishTx t r data s).link.overload = s.link.overload ∧ (finishTx t r data s).link.linkUp = s.link.linkUp ∧
    (finishTx t r data s).link.noticeCounter = s.link.noticeCounter ∧
    (finishTx t r data s).link.rate = s.link.rate ∧ (finishTx t r data s).ctrl.readCheck = s.ctrl.readCheck ∧
    (finishTx t r data s).arb.waiting = s.arb.waiting ∧ (finishTx t r data s).arb.turn = s.arb.turn ∧
    (finishTx t r data s).arb.choice = s.arb.choice ∧ (finishTx t r data s).hold.acquire = s.hold.acquire ∧
    (finishTx t r data s).inb.pointer = s.inb.pointer ∧ (finishTx t r data s).inb.credits = s.inb.credits ∧
    (finishTx t r data s).inb.masked = s.inb.masked ∧
    (finishTx t r data s).notices.slotEnabled = s.notices.slotEnabled ∧
    (finishTx t r data s).notices.faultEnabled = s.notices.faultEnabled ∧
    (finishTx t r data s).notices.holdEnabled = s.notices.holdEnabled := by
  refine ⟨?_, ?_, ?_, ?_, ?_, ?_, ?_, ?_, ?_, ?_, ?_, ?_, ?_, ?_, ?_, ?_, ?_, ?_, ?_, ?_, ?_, ?_, ?_, ?_, ?_, ?_⟩ <;>
    (simp only [finishTx]; split <;> simp)

@[simp] theorem beginTx_frame (t : Tx) (s : State) :
    (beginTx t s).pins = s.pins ∧ (beginTx t s).params = s.params ∧ (beginTx t s).stamp = s.stamp ∧
    (beginTx t s).pending = s.pending ∧ (beginTx t s).link.phase = s.link.phase ∧
    (beginTx t s).link.resetTaken = s.link.resetTaken ∧ (beginTx t s).link.session = s.link.session ∧
    (beginTx t s).link.framer = s.link.framer ∧
    (beginTx t s).link.lowRun = s.link.lowRun ∧ (beginTx t s).link.unreplied = s.link.unreplied ∧
    (beginTx t s).link.cache = s.link.cache ∧ (beginTx t s).link.overload = s.link.overload ∧
    (beginTx t s).link.linkUp = s.link.linkUp ∧ (beginTx t s).link.noticeCounter = s.link.noticeCounter ∧
    (beginTx t s).link.rate = s.link.rate ∧ (beginTx t s).ctrl.readCheck = s.ctrl.readCheck ∧
    (beginTx t s).arb.waiting = s.arb.waiting ∧ (beginTx t s).arb.turn = s.arb.turn ∧
    (beginTx t s).arb.choice = s.arb.choice ∧ (beginTx t s).hold.acquire = s.hold.acquire ∧
    (beginTx t s).inb.pointer = s.inb.pointer ∧ (beginTx t s).inb.credits = s.inb.credits ∧
    (beginTx t s).inb.masked = s.inb.masked ∧ (beginTx t s).notices.slotEnabled = s.notices.slotEnabled ∧
    (beginTx t s).notices.faultEnabled = s.notices.faultEnabled ∧
    (beginTx t s).notices.holdEnabled = s.notices.holdEnabled := by
  refine ⟨?_, ?_, ?_, ?_, ?_, ?_, ?_, ?_, ?_, ?_, ?_, ?_, ?_, ?_, ?_, ?_, ?_, ?_, ?_, ?_, ?_, ?_, ?_, ?_, ?_, ?_⟩ <;>
    (simp only [beginTx]; split <;> simp)

@[simp] theorem slotLost_frame (i : SlotId) (s : State) :
    (slotLost i s).pins = s.pins ∧ (slotLost i s).params = s.params ∧ (slotLost i s).stamp = s.stamp ∧
    (slotLost i s).pending = s.pending ∧ (slotLost i s).link.phase = s.link.phase ∧
    (slotLost i s).link.resetTaken = s.link.resetTaken ∧ (slotLost i s).link.session = s.link.session ∧
    (slotLost i s).link.framer = s.link.framer ∧
    (slotLost i s).link.lowRun = s.link.lowRun ∧ (slotLost i s).link.unreplied = s.link.unreplied ∧
    (slotLost i s).link.cache = s.link.cache ∧ (slotLost i s).link.overload = s.link.overload ∧
    (slotLost i s).link.linkUp = s.link.linkUp ∧ (slotLost i s).link.noticeCounter = s.link.noticeCounter ∧
    (slotLost i s).link.rate = s.link.rate ∧ (slotLost i s).ctrl.readCheck = s.ctrl.readCheck ∧
    (slotLost i s).arb.waiting = s.arb.waiting ∧ (slotLost i s).arb.turn = s.arb.turn ∧
    (slotLost i s).arb.choice = s.arb.choice ∧ (slotLost i s).hold.acquire = s.hold.acquire ∧
    (slotLost i s).inb.pointer = s.inb.pointer ∧ (slotLost i s).inb.credits = s.inb.credits ∧
    (slotLost i s).inb.masked = s.inb.masked ∧ (slotLost i s).notices.slotEnabled = s.notices.slotEnabled ∧
    (slotLost i s).notices.faultEnabled = s.notices.faultEnabled ∧
    (slotLost i s).notices.holdEnabled = s.notices.holdEnabled := by
  refine ⟨?_, ?_, ?_, ?_, ?_, ?_, ?_, ?_, ?_, ?_, ?_, ?_, ?_, ?_, ?_, ?_, ?_, ?_, ?_, ?_, ?_, ?_, ?_, ?_, ?_, ?_⟩ <;>
    (unfold slotLost; (repeat' split) <;> simp)

@[simp] theorem startSegment_frame (t : Transfer) (slot : SlotId) (addr : ModAddr) (entry : Option Nat) (s : State) :
    (startSegment t slot addr entry s).pins = s.pins ∧ (startSegment t slot addr entry s).params = s.params ∧
    (startSegment t slot addr entry s).stamp = s.stamp ∧ (startSegment t slot addr entry s).pending = s.pending ∧
    (startSegment t slot addr entry s).link.phase = s.link.phase ∧
    (startSegment t slot addr entry s).link.resetTaken = s.link.resetTaken ∧
    (startSegment t slot addr entry s).link.session = s.link.session ∧
    (startSegment t slot addr entry s).link.framer = s.link.framer ∧
    (startSegment t slot addr entry s).link.lowRun = s.link.lowRun ∧
    (startSegment t slot addr entry s).link.unreplied = s.link.unreplied ∧
    (startSegment t slot addr entry s).link.cache = s.link.cache ∧
    (startSegment t slot addr entry s).link.overload = s.link.overload ∧
    (startSegment t slot addr entry s).link.linkUp = s.link.linkUp ∧
    (startSegment t slot addr entry s).link.noticeCounter = s.link.noticeCounter ∧
    (startSegment t slot addr entry s).link.rate = s.link.rate ∧
    (startSegment t slot addr entry s).ctrl.readCheck = s.ctrl.readCheck ∧
    (startSegment t slot addr entry s).arb.waiting = s.arb.waiting ∧
    (startSegment t slot addr entry s).arb.turn = s.arb.turn ∧
    (startSegment t slot addr entry s).arb.choice = s.arb.choice ∧
    (startSegment t slot addr entry s).hold.acquire = s.hold.acquire ∧
    (startSegment t slot addr entry s).inb.pointer = s.inb.pointer ∧
    (startSegment t slot addr entry s).inb.credits = s.inb.credits ∧
    (startSegment t slot addr entry s).inb.masked = s.inb.masked ∧
    (startSegment t slot addr entry s).notices.slotEnabled = s.notices.slotEnabled ∧
    (startSegment t slot addr entry s).notices.faultEnabled = s.notices.faultEnabled ∧
    (startSegment t slot addr entry s).notices.holdEnabled = s.notices.holdEnabled := by
  simp [startSegment]

@[simp] theorem issueHead_frame (t : Transfer) (s : State) :
    (issueHead t s).pins = s.pins ∧ (issueHead t s).params = s.params ∧ (issueHead t s).stamp = s.stamp ∧
    (issueHead t s).pending = s.pending ∧ (issueHead t s).link.phase = s.link.phase ∧
    (issueHead t s).link.resetTaken = s.link.resetTaken ∧ (issueHead t s).link.session = s.link.session ∧
    (issueHead t s).link.framer = s.link.framer ∧
    (issueHead t s).link.lowRun = s.link.lowRun ∧ (issueHead t s).link.unreplied = s.link.unreplied ∧
    (issueHead t s).link.cache = s.link.cache ∧ (issueHead t s).link.overload = s.link.overload ∧
    (issueHead t s).link.linkUp = s.link.linkUp ∧ (issueHead t s).link.noticeCounter = s.link.noticeCounter ∧
    (issueHead t s).link.rate = s.link.rate ∧ (issueHead t s).ctrl.readCheck = s.ctrl.readCheck ∧
    (issueHead t s).arb.waiting = s.arb.waiting ∧ (issueHead t s).arb.turn = s.arb.turn ∧
    (issueHead t s).arb.choice = s.arb.choice ∧ (issueHead t s).hold.acquire = s.hold.acquire ∧
    (issueHead t s).inb.pointer = s.inb.pointer ∧ (issueHead t s).inb.credits = s.inb.credits ∧
    (issueHead t s).inb.masked = s.inb.masked ∧ (issueHead t s).notices.slotEnabled = s.notices.slotEnabled ∧
    (issueHead t s).notices.faultEnabled = s.notices.faultEnabled ∧
    (issueHead t s).notices.holdEnabled = s.notices.holdEnabled := by
  refine ⟨?_, ?_, ?_, ?_, ?_, ?_, ?_, ?_, ?_, ?_, ?_, ?_, ?_, ?_, ?_, ?_, ?_, ?_, ?_, ?_, ?_, ?_, ?_, ?_, ?_, ?_⟩ <;>
    (unfold issueHead; (repeat' split) <;> simp)

@[simp] theorem setTx_frame (t : Tx) (s : State) :
    (setTx t s).pins = s.pins ∧ (setTx t s).windows = s.windows ∧ (setTx t s).pages = s.pages ∧
    (setTx t s).xfer = s.xfer ∧ (setTx t s).arb = s.arb ∧ (setTx t s).sup = s.sup ∧ (setTx t s).hold = s.hold ∧
    (setTx t s).inb = s.inb ∧ (setTx t s).faults = s.faults ∧ (setTx t s).notices = s.notices ∧
    (setTx t s).params = s.params ∧ (setTx t s).stamp = s.stamp ∧ (setTx t s).modules = s.modules ∧
    (setTx t s).pending = s.pending ∧ (setTx t s).link = s.link ∧ (setTx t s).ctrl.readCheck = s.ctrl.readCheck :=
  ⟨rfl, rfl, rfl, rfl, rfl, rfl, rfl, rfl, rfl, rfl, rfl, rfl, rfl, rfl, rfl, rfl⟩

@[simp] theorem driveCheck_frame (c : ReadCheck) (s : State) :
    (driveCheck c s).pins = s.pins ∧ (driveCheck c s).windows = s.windows ∧ (driveCheck c s).pages = s.pages ∧
    (driveCheck c s).xfer = s.xfer ∧ (driveCheck c s).arb = s.arb ∧ (driveCheck c s).sup = s.sup ∧
    (driveCheck c s).hold = s.hold ∧ (driveCheck c s).inb = s.inb ∧ (driveCheck c s).faults = s.faults ∧
    (driveCheck c s).notices = s.notices ∧ (driveCheck c s).params = s.params ∧ (driveCheck c s).stamp = s.stamp ∧
    (driveCheck c s).modules = s.modules ∧ (driveCheck c s).pending = s.pending ∧ (driveCheck c s).link = s.link ∧
    (driveCheck c s).ctrl.tx = s.ctrl.tx :=
  ⟨rfl, rfl, rfl, rfl, rfl, rfl, rfl, rfl, rfl, rfl, rfl, rfl, rfl, rfl, rfl, rfl⟩

@[simp] theorem assertReset_frame (i : SlotId) (st : SlotState) (cause : LastCause) (timer : Option SlotTimer) (s : State) :
    (assertReset i st cause timer s).pins = s.pins ∧ (assertReset i st cause timer s).params = s.params ∧
    (assertReset i st cause timer s).stamp = s.stamp ∧ (assertReset i st cause timer s).pending = s.pending ∧
    (assertReset i st cause timer s).link.phase = s.link.phase ∧
    (assertReset i st cause timer s).link.resetTaken = s.link.resetTaken ∧
    (assertReset i st cause timer s).link.session = s.link.session ∧
    (assertReset i st cause timer s).link.framer = s.link.framer ∧
    (assertReset i st cause timer s).link.lowRun = s.link.lowRun ∧
    (assertReset i st cause timer s).link.unreplied = s.link.unreplied ∧
    (assertReset i st cause timer s).link.cache = s.link.cache ∧
    (assertReset i st cause timer s).link.overload = s.link.overload ∧
    (assertReset i st cause timer s).link.linkUp = s.link.linkUp ∧
    (assertReset i st cause timer s).link.noticeCounter = s.link.noticeCounter ∧
    (assertReset i st cause timer s).link.rate = s.link.rate ∧
    (assertReset i st cause timer s).ctrl.readCheck = s.ctrl.readCheck ∧
    (assertReset i st cause timer s).arb.waiting = s.arb.waiting ∧
    (assertReset i st cause timer s).arb.turn = s.arb.turn ∧
    (assertReset i st cause timer s).arb.choice = s.arb.choice ∧
    (assertReset i st cause timer s).hold.acquire = s.hold.acquire ∧
    (assertReset i st cause timer s).inb.pointer = s.inb.pointer ∧
    (assertReset i st cause timer s).inb.credits = s.inb.credits ∧
    (assertReset i st cause timer s).inb.masked = s.inb.masked ∧
    (assertReset i st cause timer s).notices.slotEnabled = s.notices.slotEnabled ∧
    (assertReset i st cause timer s).notices.faultEnabled = s.notices.faultEnabled ∧
    (assertReset i st cause timer s).notices.holdEnabled = s.notices.holdEnabled := by
  simp [assertReset]

@[simp] theorem presenceLost_frame (i : SlotId) (s : State) :
    (presenceLost i s).pins = s.pins ∧ (presenceLost i s).windows = s.windows ∧
    (presenceLost i s).pages = s.pages ∧ (presenceLost i s).xfer = s.xfer ∧ (presenceLost i s).ctrl = s.ctrl ∧
    (presenceLost i s).arb = s.arb ∧ (presenceLost i s).hold = s.hold ∧ (presenceLost i s).faults = s.faults ∧
    (presenceLost i s).params = s.params ∧ (presenceLost i s).stamp = s.stamp ∧
    (presenceLost i s).modules = s.modules ∧ (presenceLost i s).pending = s.pending ∧
    (presenceLost i s).link.phase = s.link.phase ∧ (presenceLost i s).link.resetTaken = s.link.resetTaken ∧
    (presenceLost i s).link.session = s.link.session ∧ (presenceLost i s).link.framer = s.link.framer ∧
    (presenceLost i s).link.lowRun = s.link.lowRun ∧
    (presenceLost i s).link.unreplied = s.link.unreplied ∧ (presenceLost i s).link.cache = s.link.cache ∧
    (presenceLost i s).link.overload = s.link.overload ∧ (presenceLost i s).link.linkUp = s.link.linkUp ∧
    (presenceLost i s).link.noticeCounter = s.link.noticeCounter ∧
    (presenceLost i s).link.transmitter = s.link.transmitter ∧ (presenceLost i s).link.rate = s.link.rate ∧
    (presenceLost i s).inb.posts = s.inb.posts ∧ (presenceLost i s).inb.reserved = s.inb.reserved ∧
    (presenceLost i s).inb.service = s.inb.service ∧ (presenceLost i s).inb.pointer = s.inb.pointer ∧
    (presenceLost i s).inb.credits = s.inb.credits ∧ (presenceLost i s).inb.masked = s.inb.masked ∧
    (presenceLost i s).inb.nextNumber = s.inb.nextNumber ∧ (presenceLost i s).notices.holdEnd = s.notices.holdEnd ∧
    (presenceLost i s).notices.slotEnabled = s.notices.slotEnabled ∧
    (presenceLost i s).notices.faultEnabled = s.notices.faultEnabled ∧
    (presenceLost i s).notices.holdEnabled = s.notices.holdEnabled := by
  refine ⟨?_, ?_, ?_, ?_, ?_, ?_, ?_, ?_, ?_, ?_, ?_, ?_, ?_, ?_, ?_, ?_, ?_, ?_, ?_, ?_, ?_, ?_, ?_, ?_, ?_, ?_, ?_, ?_, ?_, ?_, ?_, ?_, ?_, ?_, ?_⟩ <;>
    (unfold presenceLost; (repeat' split) <;> simp)

end Sys2Proof.Machine
end

