-- ==== Sys2Proof/Laws/Effects.lean ====
section
/-! SUPPORT. What the shared operations do: for each, once, the state it answers with. The `_frame` lemmas say what it
leaves; these say the rest, so that no later proof unfolds an operation. -/

namespace Sys2Proof.Machine

/-! ### Replies (R172) -/

/-- The reply an owner queues for a request. -/
def ReqId.reply (r : ReqId) (st : Status) (body : List Byte) : Reply :=
  { seq := r.seq, kind := r.kind, crc := r.crc, status := st, body := body, resend := false }

theorem queueReply_of_session {r : ReqId} {s : State} (h : r.session = s.link.session) (st : Status)
    (body : List Byte) :
    queueReply r st body s = { s with link := { s.link with replies := s.link.replies ++ [r.reply st body] } } := by
  simp [queueReply, h, ReqId.reply]

theorem queueReply_of_ended {r : ReqId} {s : State} (h : r.session ≠ s.link.session) (st : Status)
    (body : List Byte) : queueReply r st body s = s := by
  simp [queueReply, h]

/-- Whatever the session, a reply changes the reply queue alone. -/
theorem queueReply_eq (r : ReqId) (st : Status) (body : List Byte) (s : State) :
    queueReply r st body s = { s with link := { s.link with
      replies := s.link.replies ++ (if r.session = s.link.session then [r.reply st body] else []) } } := by
  by_cases h : r.session = s.link.session <;> simp [queueReply, h, ReqId.reply]

theorem queueReplies_eq (rs : List ReqId) (st : Status) (body : List Byte) (s : State) :
    queueReplies rs st body s = { s with link := { s.link with
      replies := s.link.replies ++
        ((rs.filter fun r => r.session = s.link.session).map fun r => r.reply st body) } } := by
  induction rs generalizing s with
  | nil => simp [queueReplies]
  | cons r rs ih =>
    have := ih (queueReply r st body s)
    simp only [queueReplies, List.foldl_cons] at this ⊢
    rw [this, queueReply_eq]
    by_cases h : r.session = s.link.session <;> simp [h]

@[simp] theorem queueOwed_none (st : Status) (body : List Byte) (s : State) : queueOwed none st body s = s := rfl

@[simp] theorem queueOwed_some (r : ReqId) (st : Status) (body : List Byte) (s : State) :
    queueOwed (some r) st body s = queueReply r st body s := rfl

theorem queueOwed_eq (r : Option ReqId) (st : Status) (body : List Byte) (s : State) :
    queueOwed r st body s = { s with link := { s.link with
      replies := s.link.replies ++
        (match r with
         | some r => if r.session = s.link.session then [r.reply st body] else []
         | none => []) } } := by
  cases r with
  | none => simp
  | some r => simpa using queueReply_eq r st body s

/-! ### Fault records and notices (R151, R157) -/

theorem makeRecord_entries (r : FaultRecord) (s : State) :
    (makeRecord r s).faults.entries =
      (if 32 ≤ s.faults.entries.length then s.faults.entries.tail else s.faults.entries) ++
        [{ record := { r with number := s.faults.next, stamp := s.stamp, lost := 32 ≤ s.faults.entries.length }
           pending := s.notices.faultEnabled }] := by
  by_cases h : 32 ≤ s.faults.entries.length <;> simp [makeRecord, Config.faultRecords, h]

@[simp] theorem makeRecord_next (r : FaultRecord) (s : State) :
    (makeRecord r s).faults.next = s.faults.next + 1 ∧ (makeRecord r s).faults.given = true := ⟨rfl, rfl⟩

/-- The fault list of a record made depends on the fault list, the stamp and the mask alone. -/
theorem makeRecord_faults_congr (r : FaultRecord) {s t : State} (hf : s.faults = t.faults) (hs : s.stamp = t.stamp)
    (hn : s.notices.faultEnabled = t.notices.faultEnabled) : (makeRecord r s).faults = (makeRecord r t).faults := by
  simp [makeRecord, hf, hs, hn]

theorem noteSlot_eq (i : SlotId) (s : State) :
    noteSlot i s = { s with notices := { s.notices with
      slotPending := if s.notices.slotEnabled then s.notices.slotPending.set i true else s.notices.slotPending } } := by
  rw [noteSlot]
  by_cases h : s.notices.slotEnabled = true
  · rw [if_pos h, if_pos h]
  · rw [if_neg h, if_neg h]

theorem noteAllSlots_eq (s : State) :
    noteAllSlots s = { s with notices := { s.notices with
      slotPending := if s.notices.slotEnabled then Vector.replicate 16 true else s.notices.slotPending } } := by
  rw [noteAllSlots]
  by_cases h : s.notices.slotEnabled = true
  · rw [if_pos h, if_pos h]
  · rw [if_neg h, if_neg h]

/-! ### Slots (R109, R141, R91) -/

@[simp] theorem noteSlot_slot (i j : SlotId) (s : State) : (noteSlot i s).slot j = s.slot j := by
  simp [State.slot]

@[simp] theorem queueReply_slot (r : ReqId) (st : Status) (body : List Byte) (s : State) (j : SlotId) :
    (queueReply r st body s).slot j = s.slot j := by simp [State.slot]

@[simp] theorem dropItems_slot (i j : SlotId) (s : State) : (dropItems i s).slot j = s.slot j := rfl

@[simp] theorem addItem_slot (i : SlotId) (r : WorkRead) (j : SlotId) (s : State) :
    (addItem i r s).slot j = s.slot j := rfl

/-- Replacing a slot record twice leaves the later one. -/
theorem modifySlot_modifySlot (s : State) (i : SlotId) (f g : Slot → Slot) :
    (s.modifySlot i f).modifySlot i g = s.modifySlot i fun r => g (f r) := by
  simp [State.modifySlot, Vector.set_set]

/-- A slot's change of state: its record, its notice, and the end of its back-off and room wait when it leaves ACTIVE
and LAGGING. -/
theorem changeState_eq (i : SlotId) (st : SlotState) (cause : LastCause) (s : State) :
    changeState i st cause s =
      { s with
        sup := { s.sup with slots := s.sup.slots.set i { s.slot i with state := st, lastCause := cause } }
        notices := { s.notices with
          slotPending := if s.notices.slotEnabled then s.notices.slotPending.set i true else s.notices.slotPending }
        inb := (if (s.slot i).state.inService && !st.inService then
          { s.inb with backOff := s.inb.backOff.set i none, roomWait := s.inb.roomWait.set i none } else s.inb) } := by
  by_cases h : ((s.slot i).state.inService && !st.inService) = true <;>
    simp only [changeState, noteSlot_eq, h] <;> rfl

@[simp] theorem changeState_slot_self (i : SlotId) (st : SlotState) (cause : LastCause) (s : State) :
    (changeState i st cause s).slot i = { s.slot i with state := st, lastCause := cause } := by
  simp [changeState_eq, State.slot]

theorem changeState_slot_of_ne {i j : SlotId} (h : i ≠ j) (st : SlotState) (cause : LastCause) (s : State) :
    (changeState i st cause s).slot j = s.slot j := by
  have h' : i.val ≠ j.val := fun e => h (Fin.ext e)
  simp [changeState_eq, State.slot, Vector.getElem_set_ne _ _ h']

/-! ### Windows (R7, R15) -/

theorem drainEnd_of_not_due {w : WindowId} {s : State}
    (h : ¬((s.window w).state = .closing ∧ (s.window w).useCount = 0)) : drainEnd w s = s := by
  simp [drainEnd, h]

theorem drainEnd_of_due {w : WindowId} {s : State} (hc : (s.window w).state = .closing)
    (hu : (s.window w).useCount = 0) :
    drainEnd w s = queueOwed (s.window w).clearReply .ok []
      (s.setWindow w { s.window w with state := .disabled, clearReply := none }) := by
  simp [drainEnd, hc, hu]

/-- The removal of an entry whose window is not draining lowers the use count and nothing else. -/
theorem releaseWindow_of_open {w : WindowId} {s : State} (h : (s.window w).state ≠ .closing) :
    releaseWindow w s = s.setWindow w { s.window w with useCount := (s.window w).useCount - 1 } := by
  rw [releaseWindow, drainEnd_of_not_due]
  simp [h]

/-! ### The queue's head (R52) -/

theorem fencesAtHead_of_no_fence {q : List QEntry} (h : ∀ r, q.head? ≠ some (.fence r)) (s : State) :
    fencesAtHead q s = s := by
  cases q with
  | nil => rfl
  | cons e q =>
    cases e with
    | transfer t => rfl
    | fence r => exact absurd rfl (h r)

theorem newHead_of_no_fence {s : State} (h : ∀ r, s.xfer.queue.head? ≠ some (.fence r)) : newHead s = s :=
  fencesAtHead_of_no_fence h s

/-! ### The arbiter (R73-R77) -/

theorem settle_eq (s : State) : settle s = { s with arb := (settle s).arb } := rfl

theorem settle_choice_of_held {s : State} {r : Requester} (h : s.arb.holder = some r) :
    (settle s).arb.choice = none := by
  simp [settle, standingChoice, h]

theorem choose_eq_none_iff (w : Waiting) (turn n : Nat) : choose w turn n = none ↔ ∀ r, w.has r = false := by
  constructor
  · intro h r
    simp only [choose] at h
    repeat' split at h
    all_goals cases r <;> simp_all [Waiting.has]
  · intro h
    have h1 := h .hold; have h2 := h .supervise; have h3 := h .transfer; have h4 := h .inbound
    simp only [Waiting.has] at h1 h2 h3 h4
    simp [choose, h1, h2, h3, h4]

/-- A request chosen waits. -/
theorem choose_waits {w : Waiting} {turn n : Nat} {r : Requester} (h : choose w turn n = some r) :
    w.has r = true := by
  simp only [choose] at h
  repeat' split at h
  all_goals first | (cases h; simp_all [Waiting.has]) | cases h

/-! ### Transactions (R65, R66, R70) -/

theorem linesReady_iff (s : State) (i : SlotId) :
    linesReady s i = true ↔ s.resetLine i = false ∧ s.present i = true := by
  simp [linesReady]

/-- A slot in service has its reset line released. -/
theorem resetLine_of_inService {s : State} {i : SlotId} (h : (s.slot i).state.inService = true) :
    s.resetLine i = false := by
  revert h
  simp only [State.resetLine]
  cases (s.slot i).state <;> simp [SlotState.inService]

theorem beginTx_of_ready {t : Tx} {s : State} (h : linesReady s t.slot = true) : beginTx t s = putTx t s := by
  simp [beginTx, h]

theorem beginTx_of_not_ready {t : Tx} {s : State} (h : linesReady s t.slot = false) :
    beginTx t s = finishTx t .absent [] s := by
  simp [beginTx, h]

/-- A slot with no transaction on the backplane and no pair waiting loses its lines without more (R59, R70). -/
theorem slotLost_of_other {i : SlotId} {s : State} (ht : ∀ t, s.ctrl.tx = some t → t.slot ≠ i)
    (hp : ∀ p, s.xfer.pair = some p → p.slot ≠ i) : slotLost i s = s := by
  unfold slotLost
  split
  · rename_i t h
    rw [if_neg (ht t h)]
  · split
    · rename_i p h
      rw [if_neg (hp p h)]
    · rfl

theorem slotLost_of_tx {i : SlotId} {s : State} {t : Tx} (ht : s.ctrl.tx = some t) (hi : t.slot = i) :
    slotLost i s = finishTx t .absent [] s := by
  simp [slotLost, ht, hi]

/-- A pair that waits to send its second half again ends as an ABSENT second half ends it (R59). -/
theorem slotLost_of_pair {i : SlotId} {s : State} {p : Pair} (ht : s.ctrl.tx = none) (hp : s.xfer.pair = some p)
    (hi : p.slot = i) : slotLost i s = pairResult { p with stage := .second } .absent [] s := by
  simp only [slotLost, ht, hp, hi, if_true, pairResult, secondResult]
  rfl

/-- An ABSENT transaction leaves the module's lock as it was (R72). -/
@[simp] theorem lockAfter_absent (t : Tx) (l : ModuleLock) : lockAfter t .absent l = l := by
  unfold lockAfter
  split <;> first | rfl | (rename_i h; cases h)

/-- An ABSENT transaction leaves the controller IDLE and nothing else changed. -/
theorem clearTx_absent (t : Tx) (s : State) : clearTx t .absent s = { s with ctrl := { s.ctrl with tx := none } } := by
  simp [clearTx]

/-- A transaction on the backplane: in REQUEST with no timer where it carries data, in WAIT with the response timer
where it does not (R66, R68). -/
theorem putTx_eq (t : Tx) (s : State) :
    putTx t s = { s with ctrl := { s.ctrl with tx := some { t with
      phase := if t.command.carriesData then .request else .wait
      timer := if t.command.carriesData then none else some s.params.responseTimeout } } } := by
  cases h : t.command.carriesData <;> simp [putTx, h]

theorem carriesData_iff (k : Command) : k.carriesData = true ↔ k = .write ∨ k = .unlockWrite := by
  cases k <;> simp [Command.carriesData]

/-! ### The cycles of a hold (R117, R118) -/

theorem startCycles_of_ready {d : Cycle} {rest : List Cycle} {s : State} (h : linesReady s d.slot = true) :
    startCycles (d :: rest) s =
      putTx d.tx { s with hold := { s.hold with cycle := some d, cycles := rest } } := by
  simp [startCycles, h]

/-- A queued cycle that is ABSENT at its start is answered, and the next one follows (R65, R118). -/
theorem startCycles_of_not_ready {d : Cycle} {rest : List Cycle} {s : State} (h : linesReady s d.slot = false) :
    startCycles (d :: rest) s =
      startCycles rest (queueReply d.req .ok [0x06] { s with ctrl := { s.ctrl with tx := none } }) := by
  simp [startCycles, h, clearTx_absent, answerCycle, Result.code]

/-! ### The end of a service (R129, R137, R141, R142) -/

/-- The room waits once the reservation has been given up: each that the free room now suffices for ends, where there
was a reservation. -/
def Inbound.waitsAfterRelease (b : Inbound) : Vector (Option Nat) 16 :=
  if b.reserved = 0 then b.roomWait
  else b.roomWait.map fun w =>
    match w with
    | some n => if b.posts.length < 32 ∧ n ≤ 8192 - (b.posts.map fun p => p.body.length).sum then none else some n
    | none => none

theorem releaseReservation_eq (s : State) :
    releaseReservation s = { s with inb := { s.inb with reserved := 0, roomWait := s.inb.waitsAfterRelease } } := by
  unfold releaseReservation Inbound.waitsAfterRelease
  split
  · rename_i h
    rw [← h]
  · simp [roomEvent, Inbound.hasRoom, Inbound.freeRoom, Inbound.queuedBytes, Config.posts, Config.stagingBytes]
    intro w _
    cases w with
    | none => rfl
    | some n => by_cases h : s.inb.posts.length < 32 <;> simp [h]

/-- A dropped service: no service, no reservation, and the room event of the reservation. -/
theorem dropService_eq (s : State) :
    dropService s = { s with inb := { s.inb with
      service := none, reserved := 0, roomWait := s.inb.waitsAfterRelease } } := by
  rw [dropService, releaseReservation_eq]
  rfl

theorem startBackOff_eq (i : SlotId) (s : State) :
    startBackOff i s = { s with inb := { s.inb with
      backOff := if (s.slot i).state.inService = true then
        s.inb.backOff.set i (some (if s.params.checkInterval = 0 then 100 else s.params.checkInterval))
        else s.inb.backOff } } := by
  unfold startBackOff
  split <;> rfl

/-! ### A slot that leaves ENROLLING or its service (R89, R96, R103, R104, R106) -/

/-- What an owed SLOT_ENROLL reply adds to the reply queue. -/
def State.owedReply (s : State) (i : SlotId) (st : Status) (body : List Byte) : List Reply :=
  match (s.slot i).enrollReply with
  | some r => if r.session = s.link.session then [r.reply st body] else []
  | none => []

theorem enrollDown_eq (i : SlotId) (s : State) :
    enrollDown i s = { s with
      sup := { s.sup with slots := s.sup.slots.set i { s.slot i with enrollReply := none } }
      link := { s.link with replies := s.link.replies ++
        (s.owedReply i .slotDown [(s.slot i).state.code, causeByte (s.slot i).faultCause]) } } := by
  rw [enrollDown, queueOwed_eq]
  rfl

theorem removeSlot_eq (i : SlotId) (s : State) :
    removeSlot i s = { s with
      sup := { slots := s.sup.slots.set i { (s.slot i).clearedCounts none with
                 state := .empty, lastCause := .removed, enrollReply := none }
               work := s.sup.work.filter fun w => w.slot ≠ i }
      notices := { s.notices with slotPending :=
        if s.notices.slotEnabled = true then s.notices.slotPending.set i true else s.notices.slotPending }
      inb := if (s.slot i).state.inService = true then
        { s.inb with backOff := s.inb.backOff.set i none, roomWait := s.inb.roomWait.set i none } else s.inb
      link := { s.link with replies := s.link.replies ++ s.owedReply i .slotDown [0x01, 0xFF] } } := by
  rw [removeSlot, enrollDown_eq, changeState_eq]
  simp [dropItems, State.modifySlot, State.slot, State.owedReply, Slot.clearedCounts, SlotState.inService, SlotState.code,
    causeByte]
  rfl

theorem enterFaulted_eq (i : SlotId) (cause : SlotCause) (s : State) :
    enterFaulted i cause s = { s with
      sup := { slots := s.sup.slots.set i { s.slot i with
                 state := .faulted, lastCause := .fault, faultCause := some cause, timer := none, step := .none
                 held := none, enrollReply := none }
               work := s.sup.work.filter fun w => w.slot ≠ i }
      faults := (makeRecord
        { kind := .slot, code := .slot cause, slot := some i, epoch := some (s.slot i).epoch } s).faults
      notices := { s.notices with slotPending :=
        if s.notices.slotEnabled = true then s.notices.slotPending.set i true else s.notices.slotPending }
      inb := if (s.slot i).state.inService = true then
        { s.inb with backOff := s.inb.backOff.set i none, roomWait := s.inb.roomWait.set i none } else s.inb
      link := { s.link with replies := s.link.replies ++ s.owedReply i .slotDown [0x07, cause.code] } } := by
  rw [enterFaulted, enrollDown_eq, changeState_eq]
  simp [makeRecord, dropItems, State.modifySlot, State.slot, State.owedReply, SlotState.inService, SlotState.code,
    causeByte]
  rfl

theorem assertReset_eq {state : SlotState} (h : state.inService = false) (i : SlotId) (cause : LastCause)
    (timer : Option SlotTimer) (s : State) :
    assertReset i state cause timer s = enrollDown i (slotLost i { s with
      modules := s.modules.set i .unlocked
      sup := { slots := s.sup.slots.set i { (s.slot i).clearedCounts timer with state := state, lastCause := cause }
               work := s.sup.work.filter fun w => w.slot ≠ i }
      notices := { s.notices with slotPending :=
        if s.notices.slotEnabled = true then s.notices.slotPending.set i true else s.notices.slotPending }
      inb := if (s.slot i).state.inService = true then
        { s.inb with backOff := s.inb.backOff.set i none, roomWait := s.inb.roomWait.set i none } else s.inb }) := by
  simp only [assertReset]
  rw [changeState_eq]
  simp [h, unlockModule, dropItems, State.modifySlot, State.slot, Slot.clearedCounts]
  rfl

theorem markPage_eq (entry : Option Nat) (referenced written : Bool) (s : State) :
    markPage entry referenced written s = { s with pages := (markPage entry referenced written s).pages } := by
  cases entry <;> rfl

/-- The second half of a pair whose slot's lines are ready is put on the backplane (R57, R58). -/
theorem sendSecond_of_ready {p : Pair} {s : State} (h : linesReady s p.slot = true) :
    sendSecond p s = putTx p.secondHalf { s with
      pages := (markPage (p.writtenEntry s) false true s).pages
      xfer := { s.xfer with pair := some { p with stage := .second } } } := by
  unfold sendSecond
  rw [markPage_eq]
  have h' : linesReady { s with
      pages := (markPage (p.writtenEntry s) false true s).pages
      xfer := { s.xfer with pair := some { p with stage := .second } } } p.slot = true := h
  simp only [h', if_true]
  rfl

/-- A second half that is ABSENT at its start: the page map as for any start, the controller IDLE, the module's lock as
it was, and its result taken by the supervisor and then by the pair (R25, R65, R72). -/
theorem sendSecond_of_not_ready {p : Pair} {s : State} (h : linesReady s p.slot = false) :
    sendSecond p s =
      let idle : State := { s with
        pages := (markPage (p.writtenEntry s) false true s).pages
        xfer := { s.xfer with pair := some { p with stage := .second } }
        ctrl := { s.ctrl with tx := none } }
      secondResult { p with stage := .second } .absent
        (if s.link.resetTaken then idle else superviseTakes p.slot .absent idle) := by
  unfold sendSecond
  rw [markPage_eq]
  have h' : linesReady { s with
      pages := (markPage (p.writtenEntry s) false true s).pages
      xfer := { s.xfer with pair := some { p with stage := .second } } } p.slot = false := h
  simp only [h', clearTx_absent]
  rfl

/-- The start of a second half that is no UNLOCK_WRITE, or whose pair names no VALID entry, marks nothing (R25). -/
theorem markPage_writtenEntry_of_none {p : Pair} {s : State}
    (h : p.old ≠ some p.compare ∨ ∀ i, p.entry = some i → (s.page i).valid = false) :
    markPage (p.writtenEntry s) false true s = s := by
  have hn : p.writtenEntry s = none := by
    rcases h with h | h
    · simp [Pair.writtenEntry, Pair.matches, h]
    · cases he : p.entry with
      | none => simp [Pair.writtenEntry, he]
      | some i => simp [Pair.writtenEntry, he, h i he]
  rw [hn]
  rfl

/-- The start of an UNLOCK_WRITE whose pair names a VALID entry marks that entry written (R25). -/
theorem markPage_writtenEntry_of_valid {p : Pair} {s : State} {i : Nat} (hm : p.old = some p.compare)
    (he : p.entry = some i) (hv : (s.page i).valid = true) :
    markPage (p.writtenEntry s) false true s = s.setPage i { s.page i with written := true } := by
  have hn : p.writtenEntry s = some i := by simp [Pair.writtenEntry, Pair.matches, hm, he, hv]
  rw [hn]
  simp [markPage]

/-! ### Leaving the queue (R48) -/

/-- The removal of the last entry through a draining window ends its drain (R15). -/
theorem releaseWindow_of_last {w : WindowId} {s : State} (hc : (s.window w).state = .closing)
    (hu : (s.window w).useCount = 1) :
    releaseWindow w s = queueOwed (s.window w).clearReply .ok []
      (s.setWindow w { s.window w with state := .disabled, useCount := 0, clearReply := none }) := by
  rw [releaseWindow, drainEnd_of_due (by simpa using hc) (by simp [hu])]
  rw [setWindow_window_self, hu]
  simp [State.setWindow]

/-- The fault record of a posted write that fails (R50). -/
def Transfer.failure (t : Transfer) (st : Status) (place : Option (SlotId × ModAddr)) : FaultRecord :=
  { kind := .postedWrite, code := .status st, seq := some t.req.seq, bridge := some (t.addressAt t.completed)
    completed := some t.completed, slot := place.map Prod.fst, moduleAddr := place.map Prod.snd }

/-- A transfer's own answer, a posted write's failure, and the OKs of its abort mark (R48, R50, R51, R55). -/
theorem answerTransfer_eq (t : Transfer) (o : XferEnd) (info : SwapInfo) (s : State) :
    answerTransfer t o info s = { s with
      link := { s.link with replies := s.link.replies ++
        (if t.posted = false ∧ t.req.session = s.link.session then
          [t.req.reply o.status (t.replyBody o info)] else []) ++
        (t.aborts.filter fun a => a.session = s.link.session).map fun a => a.reply .ok (countBytes t.completed) }
      xfer := { s.xfer with postedFailures :=
        match t.posted, o with
        | true, .failed _ _ => min (s.xfer.postedFailures + 1) 65535
        | _, _ => s.xfer.postedFailures }
      faults :=
        match t.posted, o with
        | true, .failed st place => (makeRecord (t.failure st place) s).faults
        | _, _ => s.faults } := by
  unfold answerTransfer
  rw [queueReplies_eq]
  cases hp : t.posted
  · simp [queueReply_eq]
  · cases o <;> simp [postedFault, makeRecord, Transfer.failure]

/-- A transfer that leaves through a window that is not draining, with no fence behind it: its answer, its window's use
count, its entry. -/
theorem leaveHead_of_open {t : Transfer} {s : State} (hw : (s.window t.window).state ≠ .closing)
    (hf : ∀ r, s.xfer.queue.tail.head? ≠ some (.fence r)) (o : XferEnd) (info : SwapInfo) :
    leaveHead t o info s = { answerTransfer t o info s with
      windows := s.windows.set t.window { s.window t.window with useCount := (s.window t.window).useCount - 1 }
      xfer := { (answerTransfer t o info s).xfer with queue := s.xfer.queue.tail } } := by
  have hq : (answerTransfer t o info s).xfer.queue = s.xfer.queue := by rw [answerTransfer_eq]
  have he : (answerTransfer t o info s).window t.window = s.window t.window := by simp [State.window]
  unfold leaveHead
  rw [releaseWindow_of_open (by rw [he]; exact hw), newHead_of_no_fence]
  · simp [setQueue, State.setWindow, he]
  · simpa [setQueue, State.setWindow, hq] using hf

end Sys2Proof.Machine
end

