-- ==== Sys2Proof/Laws/Link.lean ====
section
/-! SUPPORT. The host link's operations. -/

namespace Sys2Proof.Machine

@[simp] theorem beginNotice_frame (kind : Byte) (payload : List Byte) (src : FrameSource) (s : State) :
    (beginNotice kind payload src s).pins = s.pins ∧ (beginNotice kind payload src s).windows = s.windows ∧
    (beginNotice kind payload src s).pages = s.pages ∧ (beginNotice kind payload src s).xfer = s.xfer ∧
    (beginNotice kind payload src s).ctrl = s.ctrl ∧ (beginNotice kind payload src s).arb = s.arb ∧
    (beginNotice kind payload src s).sup = s.sup ∧ (beginNotice kind payload src s).hold = s.hold ∧
    (beginNotice kind payload src s).inb = s.inb ∧ (beginNotice kind payload src s).faults = s.faults ∧
    (beginNotice kind payload src s).notices = s.notices ∧ (beginNotice kind payload src s).params = s.params ∧
    (beginNotice kind payload src s).stamp = s.stamp ∧ (beginNotice kind payload src s).modules = s.modules ∧
    (beginNotice kind payload src s).pending = s.pending ∧
    (beginNotice kind payload src s).link.phase = s.link.phase ∧
    (beginNotice kind payload src s).link.resetTaken = s.link.resetTaken ∧
    (beginNotice kind payload src s).link.session = s.link.session ∧
    (beginNotice kind payload src s).link.framer = s.link.framer ∧
    (beginNotice kind payload src s).link.lowRun = s.link.lowRun ∧
    (beginNotice kind payload src s).link.unreplied = s.link.unreplied ∧
    (beginNotice kind payload src s).link.replies = s.link.replies ∧
    (beginNotice kind payload src s).link.cache = s.link.cache ∧
    (beginNotice kind payload src s).link.overload = s.link.overload ∧
    (beginNotice kind payload src s).link.linkUp = s.link.linkUp ∧
    (beginNotice kind payload src s).link.rate = s.link.rate :=
  ⟨rfl, rfl, rfl, rfl, rfl, rfl, rfl, rfl, rfl, rfl, rfl, rfl, rfl, rfl, rfl, rfl, rfl, rfl, rfl, rfl, rfl, rfl, rfl, rfl, rfl, rfl⟩

@[simp] theorem beginPending_frame (s : State) :
    (beginPending s).pins = s.pins ∧ (beginPending s).windows = s.windows ∧ (beginPending s).pages = s.pages ∧
    (beginPending s).xfer = s.xfer ∧ (beginPending s).ctrl = s.ctrl ∧ (beginPending s).arb = s.arb ∧
    (beginPending s).sup = s.sup ∧ (beginPending s).hold = s.hold ∧ (beginPending s).params = s.params ∧
    (beginPending s).stamp = s.stamp ∧ (beginPending s).modules = s.modules ∧
    (beginPending s).pending = s.pending ∧ (beginPending s).link.phase = s.link.phase ∧
    (beginPending s).link.resetTaken = s.link.resetTaken ∧ (beginPending s).link.session = s.link.session ∧
    (beginPending s).link.framer = s.link.framer ∧
    (beginPending s).link.lowRun = s.link.lowRun ∧ (beginPending s).link.unreplied = s.link.unreplied ∧
    (beginPending s).link.replies = s.link.replies ∧ (beginPending s).link.cache = s.link.cache ∧
    (beginPending s).link.overload = s.link.overload ∧ (beginPending s).link.linkUp = s.link.linkUp ∧
    (beginPending s).link.rate = s.link.rate ∧ (beginPending s).inb.posts = s.inb.posts ∧
    (beginPending s).inb.reserved = s.inb.reserved ∧ (beginPending s).inb.service = s.inb.service ∧
    (beginPending s).inb.pointer = s.inb.pointer ∧ (beginPending s).inb.masked = s.inb.masked ∧
    (beginPending s).inb.nextNumber = s.inb.nextNumber ∧ (beginPending s).inb.backOff = s.inb.backOff ∧
    (beginPending s).inb.roomWait = s.inb.roomWait ∧ (beginPending s).faults.next = s.faults.next ∧
    (beginPending s).faults.given = s.faults.given ∧ (beginPending s).notices.slotEnabled = s.notices.slotEnabled ∧
    (beginPending s).notices.faultEnabled = s.notices.faultEnabled ∧
    (beginPending s).notices.holdEnabled = s.notices.holdEnabled := by
  refine ⟨?_, ?_, ?_, ?_, ?_, ?_, ?_, ?_, ?_, ?_, ?_, ?_, ?_, ?_, ?_, ?_, ?_, ?_, ?_, ?_, ?_, ?_, ?_, ?_, ?_, ?_, ?_, ?_, ?_, ?_, ?_, ?_, ?_, ?_, ?_, ?_⟩ <;>
    (unfold beginPending; (try dsimp only); (repeat' split) <;> rfl)

@[simp] theorem beginFrame_frame (s : State) :
    (beginFrame s).pins = s.pins ∧ (beginFrame s).windows = s.windows ∧ (beginFrame s).pages = s.pages ∧
    (beginFrame s).xfer = s.xfer ∧ (beginFrame s).ctrl = s.ctrl ∧ (beginFrame s).arb = s.arb ∧
    (beginFrame s).sup = s.sup ∧ (beginFrame s).hold = s.hold ∧ (beginFrame s).params = s.params ∧
    (beginFrame s).stamp = s.stamp ∧ (beginFrame s).modules = s.modules ∧ (beginFrame s).pending = s.pending ∧
    (beginFrame s).link.phase = s.link.phase ∧ (beginFrame s).link.resetTaken = s.link.resetTaken ∧
    (beginFrame s).link.session = s.link.session ∧ (beginFrame s).link.framer = s.link.framer ∧
    (beginFrame s).link.lowRun = s.link.lowRun ∧
    (beginFrame s).link.unreplied = s.link.unreplied ∧ (beginFrame s).link.cache = s.link.cache ∧
    (beginFrame s).link.rate = s.link.rate ∧ (beginFrame s).inb.posts = s.inb.posts ∧
    (beginFrame s).inb.reserved = s.inb.reserved ∧ (beginFrame s).inb.service = s.inb.service ∧
    (beginFrame s).inb.pointer = s.inb.pointer ∧ (beginFrame s).inb.masked = s.inb.masked ∧
    (beginFrame s).inb.nextNumber = s.inb.nextNumber ∧ (beginFrame s).inb.backOff = s.inb.backOff ∧
    (beginFrame s).inb.roomWait = s.inb.roomWait ∧ (beginFrame s).faults.next = s.faults.next ∧
    (beginFrame s).faults.given = s.faults.given ∧ (beginFrame s).notices.slotEnabled = s.notices.slotEnabled ∧
    (beginFrame s).notices.faultEnabled = s.notices.faultEnabled ∧
    (beginFrame s).notices.holdEnabled = s.notices.holdEnabled := by
  refine ⟨?_, ?_, ?_, ?_, ?_, ?_, ?_, ?_, ?_, ?_, ?_, ?_, ?_, ?_, ?_, ?_, ?_, ?_, ?_, ?_, ?_, ?_, ?_, ?_, ?_, ?_, ?_, ?_, ?_, ?_, ?_, ?_, ?_⟩ <;>
    (unfold beginFrame; dsimp only; (repeat' split) <;> first | rfl | simp)

@[simp] theorem takeReset_frame (s : State) :
    (takeReset s).pins = s.pins ∧ (takeReset s).ctrl = s.ctrl ∧ (takeReset s).arb = s.arb ∧
    (takeReset s).sup = s.sup ∧ (takeReset s).inb = s.inb ∧ (takeReset s).faults = s.faults ∧
    (takeReset s).notices = s.notices ∧ (takeReset s).params = s.params ∧ (takeReset s).stamp = s.stamp ∧
    (takeReset s).modules = s.modules ∧ (takeReset s).pending = s.pending ∧
    (takeReset s).link.linkUp = s.link.linkUp ∧ (takeReset s).link.noticeCounter = s.link.noticeCounter ∧
    (takeReset s).link.transmitter = s.link.transmitter ∧ (takeReset s).link.rate = s.link.rate :=
  ⟨rfl, rfl, rfl, rfl, rfl, rfl, rfl, rfl, rfl, rfl, rfl, rfl, rfl, rfl, rfl⟩

@[simp] theorem replySent_frame (r : Reply) (s : State) :
    (replySent r s).pins = s.pins ∧ (replySent r s).ctrl = s.ctrl ∧ (replySent r s).arb = s.arb ∧
    (replySent r s).sup = s.sup ∧ (replySent r s).inb = s.inb ∧ (replySent r s).faults = s.faults ∧
    (replySent r s).notices = s.notices ∧ (replySent r s).params = s.params ∧ (replySent r s).stamp = s.stamp ∧
    (replySent r s).modules = s.modules ∧ (replySent r s).pending = s.pending ∧
    (replySent r s).link.linkUp = s.link.linkUp ∧ (replySent r s).link.noticeCounter = s.link.noticeCounter ∧
    (replySent r s).link.transmitter = s.link.transmitter ∧ (replySent r s).link.rate = s.link.rate := by
  refine ⟨?_, ?_, ?_, ?_, ?_, ?_, ?_, ?_, ?_, ?_, ?_, ?_, ?_, ?_, ?_⟩ <;>
    (unfold replySent; (try dsimp only); (repeat' split) <;> rfl)

@[simp] theorem postSent_frame (s : State) :
    (postSent s).pins = s.pins ∧ (postSent s).windows = s.windows ∧ (postSent s).pages = s.pages ∧
    (postSent s).xfer = s.xfer ∧ (postSent s).ctrl = s.ctrl ∧ (postSent s).arb = s.arb ∧ (postSent s).sup = s.sup ∧
    (postSent s).hold = s.hold ∧ (postSent s).faults = s.faults ∧ (postSent s).notices = s.notices ∧
    (postSent s).params = s.params ∧ (postSent s).stamp = s.stamp ∧ (postSent s).modules = s.modules ∧
    (postSent s).pending = s.pending ∧ (postSent s).link = s.link ∧ (postSent s).inb.reserved = s.inb.reserved ∧
    (postSent s).inb.service = s.inb.service ∧ (postSent s).inb.pointer = s.inb.pointer ∧
    (postSent s).inb.credits = s.inb.credits ∧ (postSent s).inb.masked = s.inb.masked ∧
    (postSent s).inb.nextNumber = s.inb.nextNumber ∧ (postSent s).inb.backOff = s.inb.backOff :=
  ⟨rfl, rfl, rfl, rfl, rfl, rfl, rfl, rfl, rfl, rfl, rfl, rfl, rfl, rfl, rfl, rfl, rfl, rfl, rfl, rfl, rfl, rfl⟩

@[simp] theorem completeReset_frame (s : State) :
    (completeReset s).pins = s.pins ∧ (completeReset s).windows = s.windows ∧ (completeReset s).pages = s.pages ∧
    (completeReset s).xfer = s.xfer ∧ (completeReset s).ctrl = s.ctrl ∧ (completeReset s).params = s.params ∧
    (completeReset s).stamp = s.stamp ∧ (completeReset s).pending = s.pending ∧
    (completeReset s).faults.next = s.faults.next ∧ (completeReset s).faults.given = s.faults.given ∧
    (completeReset s).notices.slotEnabled = s.notices.slotEnabled ∧
    (completeReset s).notices.faultEnabled = s.notices.faultEnabled ∧
    (completeReset s).notices.holdEnabled = s.notices.holdEnabled := by
  simp [completeReset]

@[simp] theorem cutOff_frame (s : State) :
    (cutOff s).pins = s.pins ∧ (cutOff s).windows = s.windows ∧ (cutOff s).pages = s.pages ∧
    (cutOff s).xfer = s.xfer ∧ (cutOff s).ctrl = s.ctrl ∧ (cutOff s).arb = s.arb ∧ (cutOff s).sup = s.sup ∧
    (cutOff s).hold = s.hold ∧ (cutOff s).inb = s.inb ∧ (cutOff s).params = s.params ∧ (cutOff s).stamp = s.stamp ∧
    (cutOff s).modules = s.modules ∧ (cutOff s).pending = s.pending ∧ (cutOff s).link.phase = s.link.phase ∧
    (cutOff s).link.resetTaken = s.link.resetTaken ∧ (cutOff s).link.session = s.link.session ∧
    (cutOff s).link.framer = s.link.framer ∧
    (cutOff s).link.lowRun = s.link.lowRun ∧ (cutOff s).link.unreplied = s.link.unreplied ∧
    (cutOff s).link.replies = s.link.replies ∧ (cutOff s).link.cache = s.link.cache ∧
    (cutOff s).link.overload = s.link.overload ∧ (cutOff s).link.noticeCounter = s.link.noticeCounter ∧
    (cutOff s).link.rate = s.link.rate ∧ (cutOff s).faults.next = s.faults.next ∧
    (cutOff s).faults.given = s.faults.given ∧ (cutOff s).notices.slotPending = s.notices.slotPending ∧
    (cutOff s).notices.slotEnabled = s.notices.slotEnabled ∧
    (cutOff s).notices.faultEnabled = s.notices.faultEnabled ∧
    (cutOff s).notices.holdEnabled = s.notices.holdEnabled := by
  refine ⟨?_, ?_, ?_, ?_, ?_, ?_, ?_, ?_, ?_, ?_, ?_, ?_, ?_, ?_, ?_, ?_, ?_, ?_, ?_, ?_, ?_, ?_, ?_, ?_, ?_, ?_, ?_, ?_, ?_, ?_⟩ <;>
    (unfold cutOff; (try dsimp only); (repeat' split) <;> rfl)

@[simp] theorem breakHold_frame (s : State) :
    (breakHold s).pins = s.pins ∧ (breakHold s).windows = s.windows ∧ (breakHold s).pages = s.pages ∧
    (breakHold s).xfer = s.xfer ∧ (breakHold s).ctrl = s.ctrl ∧ (breakHold s).sup = s.sup ∧
    (breakHold s).inb = s.inb ∧ (breakHold s).faults = s.faults ∧ (breakHold s).params = s.params ∧
    (breakHold s).stamp = s.stamp ∧ (breakHold s).modules = s.modules ∧ (breakHold s).pending = s.pending ∧
    (breakHold s).link.phase = s.link.phase ∧ (breakHold s).link.resetTaken = s.link.resetTaken ∧
    (breakHold s).link.session = s.link.session ∧ (breakHold s).link.framer = s.link.framer ∧
    (breakHold s).link.lowRun = s.link.lowRun ∧
    (breakHold s).link.unreplied = s.link.unreplied ∧ (breakHold s).link.cache = s.link.cache ∧
    (breakHold s).link.overload = s.link.overload ∧ (breakHold s).link.linkUp = s.link.linkUp ∧
    (breakHold s).link.noticeCounter = s.link.noticeCounter ∧ (breakHold s).link.rate = s.link.rate ∧
    (breakHold s).arb.waiting = s.arb.waiting ∧ (breakHold s).arb.turn = s.arb.turn ∧
    (breakHold s).arb.choice = s.arb.choice ∧ (breakHold s).hold.cycle = s.hold.cycle ∧
    (breakHold s).notices.slotPending = s.notices.slotPending ∧
    (breakHold s).notices.slotEnabled = s.notices.slotEnabled ∧
    (breakHold s).notices.faultEnabled = s.notices.faultEnabled ∧
    (breakHold s).notices.holdEnabled = s.notices.holdEnabled := by
  refine ⟨?_, ?_, ?_, ?_, ?_, ?_, ?_, ?_, ?_, ?_, ?_, ?_, ?_, ?_, ?_, ?_, ?_, ?_, ?_, ?_, ?_, ?_, ?_, ?_, ?_, ?_, ?_, ?_, ?_, ?_, ?_⟩ <;>
    (simp only [breakHold]; split <;> simp)

/-! ### What a break does (R126, R160, R177) -/

/-- A frame cut off touches the transmitter, LINK_UP, the FAULT indications and HOLD_END alone. -/
theorem cutOff_eq (s : State) :
    cutOff s = { s with
      link := { s.link with transmitter := none, linkUp := (cutOff s).link.linkUp }
      faults := (cutOff s).faults
      notices := { s.notices with holdEnd := (cutOff s).notices.holdEnd } } := by
  unfold cutOff
  dsimp only
  repeat' split
  all_goals rfl

/-- A bridge reset is owed while the OK of one waits as a reply or is on the line (R177). -/
theorem resetOwed_iff (l : Link) :
    resetOwed l = true ↔
      (∃ r ∈ l.replies, r.isResetOk = true) ∨ ∃ f r, l.transmitter = some (f, .reply r) ∧ r.isResetOk = true := by
  simp only [resetOwed, Bool.or_eq_true, List.any_eq_true]
  refine or_congr Iff.rfl ⟨fun h => ?_, ?_⟩
  · split at h
    · rename_i f r e
      exact ⟨f, r, e, h⟩
    · cases h
  · rintro ⟨f, r, e, h⟩
    rw [e]
    exact h

/-- The hold unit after a break (R126). -/
def Hold.afterBreak (h : Hold) : Hold :=
  match h.state with
  | .idle => h
  | .pending => { h with state := .idle, acquire := none, limit := none }
  | .held =>
    if h.cycle = none then
      { h with state := .idle, limit := none, limitTimer := none, endCause := none, releaseReply := none, cycles := [] }
    else { h with limitTimer := none, endCause := some .brk }

/-- A break ends a hold with no cycle in progress: its queued cycles and an owed release are answered, which a reply of
an ended session is not, and the grant is returned; no HOLD_END is pending by it. -/
theorem breakHold_eq (s : State) :
    breakHold s = { s with
      hold := s.hold.afterBreak
      arb := (if s.hold.state = .held ∧ s.hold.cycle = none then { s.arb with holder := none } else s.arb)
      link := { s.link with replies := s.link.replies ++
        (if s.hold.state = .held ∧ s.hold.cycle = none then
          ((s.hold.cycles.filter fun c => c.req.session = s.link.session).map fun c => c.req.reply .notHeld []) ++
          (match s.hold.releaseReply with
           | some r => if r.session = s.link.session then [r.reply .ok []] else []
           | none => [])
        else []) } } := by
  cases h : s.hold.state with
  | idle => simp [breakHold, Hold.afterBreak, h]
  | pending => simp [breakHold, Hold.afterBreak, h]
  | held =>
    cases hc : s.hold.cycle with
    | none =>
      simp [breakHold, Hold.afterBreak, h, hc, holdMayEnd, endHold, queueReplies_eq, queueOwed_eq, returnGrant,
        List.filter_map]
      rfl
    | some c => simp [breakHold, Hold.afterBreak, h, hc, holdMayEnd]

/-- A break that has begun lasts. -/
theorem beginBreak_phase (s : State) : (settle (beginBreak s)).link.phase = .brk := by
  show (beginBreak s).link.phase = .brk
  unfold beginBreak
  simp only [breakHold_eq, noteAllSlots_eq]
  split <;> rfl

end Sys2Proof.Machine
end

