-- ==== Sys2Proof/Laws/Requests.lean ====
section
/-! SUPPORT. The receipt of a request, case by case (R168, R169): what `onRequest` and `handOn` answer, and what an
accepted request's own immediate reply leaves. -/

namespace Sys2Proof.Machine

variable {kind seq : Byte} {payload : List Byte} {owner : ReqId → State → State} {s : State}

/-- In HUNT, with the line high before it, a request with a payload a frame can hold is handed on. -/
theorem onRequest_of_hunt (h : s.link.phase ≠ .brk) (hf : s.link.framer = .hunt) (hl : s.link.lowRun = 0)
    (hp : payload.length ≤ Config.payloadBytes) :
    onRequest kind seq payload owner s = handOn kind seq payload owner s := by
  simp [onRequest, h, hf, hl, hp]

/-- In BREAK, while a frame is in progress or after a low line, a request's levels are taken as any others. -/
theorem onRequest_of_levels
    (h : ¬(s.link.phase ≠ .brk ∧ s.link.framer = .hunt ∧ s.link.lowRun = 0 ∧ payload.length ≤ Config.payloadBytes)) :
    onRequest kind seq payload owner s = hearLevels (requestFrame kind seq payload).line [] s := by
  rw [onRequest, if_neg h]

/-- What `examine` finds, in the order of R169. -/
theorem examine_of_not_opened {crc : BitVec 16} {l : Link} (h : l.phase ≠ .opened) :
    examine kind seq crc l = .discarded := by
  simp [examine, h]

theorem examine_of_cached {crc : BitVec 16} {l : Link} {e : CacheEntry} (h : l.phase = .opened)
    (he : l.cache.find? (fun e => e.seq = seq ∧ e.kind = kind ∧ e.crc = crc) = some e) :
    examine kind seq crc l = .resent e := by
  rw [examine, if_neg (by simp [h]), he]

theorem examine_of_fresh {crc : BitVec 16} {l : Link} (h : l.phase = .opened)
    (hc : ∀ e ∈ l.cache, ¬(e.seq = seq ∧ e.kind = kind ∧ e.crc = crc)) :
    examine kind seq crc l =
      if l.unreplied.any (fun r => r.seq = seq) then .discarded
      else if Config.unrepliedRequests ≤ l.unreplied.length then .overloaded else .accepted := by
  have hn : l.cache.find? (fun e => e.seq = seq ∧ e.kind = kind ∧ e.crc = crc) = none := by
    simpa [List.find?_eq_none] using hc
  rw [examine, if_neg (by simp [h]), hn]

/-- In RESET_WAIT a good request is discarded. -/
theorem handOn_of_not_opened (h : s.link.phase ≠ .opened) : handOn kind seq payload owner s = s := by
  have hx : examine kind seq (reqId kind seq payload s).crc s.link = .discarded := examine_of_not_opened h
  simp only [handOn, hx]

/-- A request found in the reply cache is answered with a copy of the entry's reply. -/
theorem handOn_of_cached {e : CacheEntry} (h : s.link.phase = .opened)
    (he : s.link.cache.find? (fun e => e.seq = seq ∧ e.kind = kind ∧ e.crc = (requestFrame kind seq payload).crc) =
      some e) :
    handOn kind seq payload owner s = { s with link := s.link.resend e } := by
  have hx : examine kind seq (reqId kind seq payload s).crc s.link = .resent e := examine_of_cached h he
  simp only [handOn, hx]

/-- A repeat of an unreplied request is discarded. -/
theorem handOn_of_unreplied (h : s.link.phase = .opened)
    (hc : ∀ e ∈ s.link.cache, ¬(e.seq = seq ∧ e.kind = kind ∧ e.crc = (requestFrame kind seq payload).crc))
    (hu : ∃ r ∈ s.link.unreplied, r.seq = seq) : handOn kind seq payload owner s = s := by
  have hx : examine kind seq (reqId kind seq payload s).crc s.link = .discarded := by
    show examine kind seq (requestFrame kind seq payload).crc s.link = _
    rw [examine_of_fresh h hc, if_pos (by simpa using hu)]
  simp only [handOn, hx]

/-- A ninth request is answered OVERLOAD through the overload record. -/
theorem handOn_of_overload (h : s.link.phase = .opened)
    (hc : ∀ e ∈ s.link.cache, ¬(e.seq = seq ∧ e.kind = kind ∧ e.crc = (requestFrame kind seq payload).crc))
    (hu : ∀ r ∈ s.link.unreplied, r.seq ≠ seq) (hf : Config.unrepliedRequests ≤ s.link.unreplied.length) :
    handOn kind seq payload owner s = { s with link := { s.link with
      cache := s.link.cache.filter fun e => e.seq ≠ seq, overload := some (seq, kind) } } := by
  have hx : examine kind seq (reqId kind seq payload s).crc s.link = .overloaded := by
    show examine kind seq (requestFrame kind seq payload).crc s.link = _
    rw [examine_of_fresh h hc, if_neg (by simpa using hu), if_pos hf]
  simp only [handOn, hx]
  rfl

/-- An accepted request goes to its owner. -/
theorem onRequest_of_accepts (h : Accepts kind seq payload s) :
    onRequest kind seq payload owner s = owner (reqId kind seq payload s) (s.accepted kind seq payload) := by
  have hx : examine kind seq (reqId kind seq payload s).crc s.link = .accepted := by
    show examine kind seq (requestFrame kind seq payload).crc s.link = _
    rw [examine_of_fresh h.opened h.fresh, if_neg (by simpa using h.unused), if_neg (Nat.not_le.mpr h.room)]
  rw [onRequest_of_hunt (by simp [h.opened]) h.hunt h.high h.short]
  simp only [handOn, hx]
  rfl

/-- The characters of a line are received in order, each as the byte it carries (R165). -/
@[simp] theorem receiveChar_charLevels (b : Byte) : receiveChar (charLevels b) = some (.byte b) := by
  revert b; decide

theorem filterMap_receiveChar_line (f : Frame) : f.line.filterMap receiveChar = f.bytes.map .byte := by
  simp [Frame.line, List.filterMap_map]

/-- The accepted request's own reply, queued at once. -/
@[simp] theorem queueReply_accepted (st : Status) (body : List Byte) :
    queueReply (reqId kind seq payload s) st body (s.accepted kind seq payload) =
      s.answered kind seq payload st body := by
  simp [queueReply, State.accepted, State.answered, reqId]

/-- Acceptance changes the host link alone. -/
@[simp] theorem accepted_frame :
    (s.accepted kind seq payload).pins = s.pins ∧ (s.accepted kind seq payload).windows = s.windows ∧
    (s.accepted kind seq payload).pages = s.pages ∧ (s.accepted kind seq payload).xfer = s.xfer ∧
    (s.accepted kind seq payload).ctrl = s.ctrl ∧ (s.accepted kind seq payload).arb = s.arb ∧
    (s.accepted kind seq payload).sup = s.sup ∧ (s.accepted kind seq payload).hold = s.hold ∧
    (s.accepted kind seq payload).inb = s.inb ∧ (s.accepted kind seq payload).faults = s.faults ∧
    (s.accepted kind seq payload).notices = s.notices ∧ (s.accepted kind seq payload).params = s.params ∧
    (s.accepted kind seq payload).stamp = s.stamp ∧ (s.accepted kind seq payload).modules = s.modules ∧
    (s.accepted kind seq payload).pending = s.pending ∧
    (s.accepted kind seq payload).link.phase = s.link.phase ∧
    (s.accepted kind seq payload).link.session = s.link.session ∧
    (s.accepted kind seq payload).link.resetTaken = s.link.resetTaken ∧
    (s.accepted kind seq payload).link.replies = s.link.replies :=
  ⟨rfl, rfl, rfl, rfl, rfl, rfl, rfl, rfl, rfl, rfl, rfl, rfl, rfl, rfl, rfl, rfl, rfl, rfl, rfl⟩

@[simp] theorem accepted_window (w : WindowId) : (s.accepted kind seq payload).window w = s.window w := rfl

@[simp] theorem accepted_slot (i : SlotId) : (s.accepted kind seq payload).slot i = s.slot i := rfl

@[simp] theorem accepted_page (i : Nat) : (s.accepted kind seq payload).page i = s.page i := rfl

@[simp] theorem accepted_present (i : SlotId) : (s.accepted kind seq payload).present i = s.present i := rfl

@[simp] theorem accepted_resetLine (i : SlotId) : (s.accepted kind seq payload).resetLine i = s.resetLine i := rfl

@[simp] theorem reqId_session : (reqId kind seq payload s).session = s.link.session := rfl

end Sys2Proof.Machine
end

