-- ==== Sys2Proof/Laws/Receive.lean ====
section
/-! SUPPORT. What passing a request on leaves of the receive line: no owner touches the framer, the link phase or the low
run (R168, R170); what levels on that line do (R165, R166). -/

namespace Sys2Proof.Machine

/-- The framer, the link phase and the low run stand as they are. -/
def SameLine (t s : State) : Prop :=
  t.link.framer = s.link.framer ∧ t.link.phase = s.link.phase ∧ t.link.lowRun = s.link.lowRun

@[simp] theorem settle_link (s : State) : (settle s).link = s.link := rfl

@[simp] theorem setWindow_link (w : WindowId) (r : Window) (s : State) : (s.setWindow w r).link = s.link := rfl

@[simp] theorem modifySlot_link (i : SlotId) (f : Slot → Slot) (s : State) : (s.modifySlot i f).link = s.link := rfl

@[simp] theorem setParams_link (p : Params) (s : State) : (setParams p s).link = s.link := rfl

@[simp] theorem writePages_link (first : Nat) (es : List PageEntry) (s : State) :
    (writePages first es s).link = s.link := by
  induction es generalizing first s with
  | nil => rfl
  | cons e es ih => simp [writePages, ih]

@[simp] theorem clearPages_link (first count : Nat) (s : State) : (clearPages first count s).link = s.link := by
  induction count generalizing first s with
  | zero => rfl
  | succ n ih => simp [clearPages, ih]

theorem joinQueue_line (t : Transfer) (s : State) : SameLine (joinQueue t s) s := by
  unfold joinQueue; split <;> simp [SameLine, useWindow]

theorem windowSetOwner_line (p : List Byte) (r : ReqId) (s : State) : SameLine (windowSetOwner p r s) s := by
  unfold windowSetOwner
  (repeat' split) <;> simp [SameLine]

theorem windowClearOwner_line (p : List Byte) (r : ReqId) (s : State) : SameLine (windowClearOwner p r s) s := by
  unfold windowClearOwner clearWindow
  (repeat' split) <;> simp [SameLine]

theorem windowGetOwner_line (p : List Byte) (r : ReqId) (s : State) : SameLine (windowGetOwner p r s) s := by
  unfold windowGetOwner
  (repeat' split) <;> simp [SameLine]

theorem pageWriteOwner_line (p : List Byte) (r : ReqId) (s : State) : SameLine (pageWriteOwner p r s) s := by
  unfold pageWriteOwner
  (repeat' split) <;> simp [SameLine]

theorem pageReadOwner_line (p : List Byte) (r : ReqId) (s : State) : SameLine (pageReadOwner p r s) s := by
  unfold pageReadOwner
  (repeat' split) <;> simp [SameLine]

theorem pageSweepOwner_line (p : List Byte) (r : ReqId) (s : State) : SameLine (pageSweepOwner p r s) s := by
  unfold pageSweepOwner
  (repeat' split) <;> simp [SameLine]

theorem accessReadOwner_line (p : List Byte) (r : ReqId) (s : State) : SameLine (accessReadOwner p r s) s := by
  unfold accessReadOwner
  unfold acceptAccess
  (repeat' split) <;> first | exact joinQueue_line .. | simp [SameLine]

theorem accessWriteOwner_line (p : List Byte) (r : ReqId) (s : State) : SameLine (accessWriteOwner p r s) s := by
  unfold accessWriteOwner
  unfold acceptAccess
  (repeat' split) <;> first | exact joinQueue_line .. | simp [SameLine]

theorem accessSwapOwner_line (p : List Byte) (r : ReqId) (s : State) : SameLine (accessSwapOwner p r s) s := by
  unfold accessSwapOwner
  unfold acceptAccess
  (repeat' split) <;> first | exact joinQueue_line .. | simp [SameLine]

theorem accessFenceOwner_line (p : List Byte) (r : ReqId) (s : State) : SameLine (accessFenceOwner p r s) s := by
  unfold accessFenceOwner
  (repeat' split) <;> simp [SameLine]

theorem accessAbortOwner_line (p : List Byte) (r : ReqId) (s : State) : SameLine (accessAbortOwner p r s) s := by
  unfold accessAbortOwner abortAt
  (repeat' split) <;> simp [SameLine, answerAborted, withdrawRequest]

theorem holdAcquireOwner_line (p : List Byte) (r : ReqId) (s : State) : SameLine (holdAcquireOwner p r s) s := by
  unfold holdAcquireOwner
  (repeat' split) <;> simp [SameLine]

theorem holdCycleOwner_line (p : List Byte) (r : ReqId) (s : State) : SameLine (holdCycleOwner p r s) s := by
  unfold holdCycleOwner takeCycle
  (repeat' split) <;> simp [SameLine]

theorem holdReleaseOwner_line (p : List Byte) (r : ReqId) (s : State) : SameLine (holdReleaseOwner p r s) s := by
  unfold holdReleaseOwner releaseHold
  (repeat' split) <;> simp [SameLine]

theorem postCreditOwner_line (p : List Byte) (r : ReqId) (s : State) : SameLine (postCreditOwner p r s) s := by
  unfold postCreditOwner
  (repeat' split) <;> simp [SameLine]

theorem attentionMaskOwner_line (p : List Byte) (r : ReqId) (s : State) : SameLine (attentionMaskOwner p r s) s := by
  unfold attentionMaskOwner
  (repeat' split) <;> simp [SameLine]

theorem faultReadOwner_line (p : List Byte) (r : ReqId) (s : State) : SameLine (faultReadOwner p r s) s := by
  unfold faultReadOwner
  (repeat' split) <;> simp [SameLine]

theorem faultClearOwner_line (p : List Byte) (r : ReqId) (s : State) : SameLine (faultClearOwner p r s) s := by
  unfold faultClearOwner
  (repeat' split) <;> simp [SameLine]

theorem noticeMaskOwner_line (p : List Byte) (r : ReqId) (s : State) : SameLine (noticeMaskOwner p r s) s := by
  unfold noticeMaskOwner
  (repeat' split) <;> simp [SameLine]

theorem echoOwner_line (p : List Byte) (r : ReqId) (s : State) : SameLine (echoOwner p r s) s := by
  unfold echoOwner
  (repeat' split) <;> simp [SameLine]

theorem configGetOwner_line (p : List Byte) (r : ReqId) (s : State) : SameLine (configGetOwner p r s) s := by
  unfold configGetOwner
  (repeat' split) <;> simp [SameLine]

theorem configSetOwner_line (p : List Byte) (r : ReqId) (s : State) : SameLine (configSetOwner p r s) s := by
  unfold configSetOwner
  (repeat' split) <;> simp [SameLine]

theorem bridgeResetOwner_line (p : List Byte) (r : ReqId) (s : State) : SameLine (bridgeResetOwner p r s) s := by
  unfold bridgeResetOwner
  (repeat' split) <;> simp [SameLine]

theorem onSlot_line {act : SlotId → ReqId → State → State} (h : ∀ i r s, SameLine (act i r s) s) (p : List Byte)
    (r : ReqId) (s : State) : SameLine (onSlot p act r s) s := by
  unfold onSlot
  (repeat' split) <;> first | exact h .. | simp [SameLine]

theorem getSlot_line (i : SlotId) (r : ReqId) (s : State) : SameLine (getSlot i r s) s := by simp [SameLine, getSlot]

theorem enrollSlot_line (i : SlotId) (r : ReqId) (s : State) : SameLine (enrollSlot i r s) s := by
  unfold enrollSlot beginEnrollment beginAttempt
  (repeat' split) <;> simp [SameLine]

theorem resetSlot_line (i : SlotId) (r : ReqId) (s : State) : SameLine (resetSlot i r s) s := by
  unfold resetSlot
  (repeat' split) <;> simp [SameLine]

theorem offSlot_line (i : SlotId) (r : ReqId) (s : State) : SameLine (offSlot i r s) s := by
  unfold offSlot
  (repeat' split) <;> simp [SameLine]

theorem onSlotAgain_line (i : SlotId) (r : ReqId) (s : State) : SameLine (onSlotAgain i r s) s := by
  unfold onSlotAgain
  (repeat' split) <;> simp [SameLine]

theorem ite_line {c : Prop} [Decidable c] {f g : ReqId → State → State} (hf : ∀ r s, SameLine (f r s) s)
    (hg : ∀ r s, SameLine (g r s) s) : ∀ r s, SameLine ((if c then f else g) r s) s := by
  split <;> assumption

/-- No owner touches the framer, the link phase or the low run. -/
theorem ownerOf_line (kind : Byte) (p : List Byte) : ∀ r s, SameLine (ownerOf kind p r s) s := by
  refine ite_line (windowSetOwner_line p) ?_
  refine ite_line (windowClearOwner_line p) ?_
  refine ite_line (windowGetOwner_line p) ?_
  refine ite_line (pageWriteOwner_line p) ?_
  refine ite_line (pageReadOwner_line p) ?_
  refine ite_line (pageSweepOwner_line p) ?_
  refine ite_line (accessReadOwner_line p) ?_
  refine ite_line (accessWriteOwner_line p) ?_
  refine ite_line (accessSwapOwner_line p) ?_
  refine ite_line (accessFenceOwner_line p) ?_
  refine ite_line (accessAbortOwner_line p) ?_
  refine ite_line (onSlot_line getSlot_line p) ?_
  refine ite_line (onSlot_line enrollSlot_line p) ?_
  refine ite_line (onSlot_line resetSlot_line p) ?_
  refine ite_line (onSlot_line offSlot_line p) ?_
  refine ite_line (onSlot_line onSlotAgain_line p) ?_
  refine ite_line (holdAcquireOwner_line p) ?_
  refine ite_line (holdCycleOwner_line p) ?_
  refine ite_line (holdReleaseOwner_line p) ?_
  refine ite_line (postCreditOwner_line p) ?_
  refine ite_line (attentionMaskOwner_line p) ?_
  refine ite_line (faultReadOwner_line p) ?_
  refine ite_line (faultClearOwner_line p) ?_
  refine ite_line (noticeMaskOwner_line p) ?_
  refine ite_line (echoOwner_line p) ?_
  refine ite_line (configGetOwner_line p) ?_
  refine ite_line (configSetOwner_line p) ?_
  refine ite_line (bridgeResetOwner_line p) ?_
  intro r s; simp [SameLine, unknownKindOwner]

/-- A request passed on leaves the framer, the link phase and the low run as they are. -/
theorem passOn_line (q : RxRequest) (s : State) : SameLine (passOn q s) s := by
  unfold passOn handOn
  dsimp only
  split
  · exact ⟨rfl, rfl, rfl⟩
  · unfold Link.resend; split <;> exact ⟨rfl, rfl, rfl⟩
  · exact ⟨rfl, rfl, rfl⟩
  · exact ownerOf_line ..

/-- Requests passed on one after another leave the framer, the link phase and the low run as they are. -/
theorem passAll_line (qs : List RxRequest) (s : State) : SameLine (qs.foldl (fun s q => passOn q s) s) s := by
  induction qs generalizing s with
  | nil => exact ⟨rfl, rfl, rfl⟩
  | cons q qs ih =>
    have h := ih (passOn q s)
    have hq := passOn_line q s
    exact ⟨h.1.trans hq.1, h.2.1.trans hq.2.1, h.2.2.trans hq.2.2⟩

/-- Characters leave the link phase and the low run as they are. -/
theorem receive_line (cs : List RxChar) (s : State) :
    (receive cs s).link.phase = s.link.phase ∧ (receive cs s).link.lowRun = s.link.lowRun := by
  unfold receive
  split
  · exact ⟨rfl, rfl⟩
  · exact ⟨(passAll_line _ _).2.1, (passAll_line _ _).2.2⟩

/-! ### Levels (R165, R166) -/

/-- In BREAK levels are no characters; the first high one ends the break. -/
theorem hearLevels_of_break {s : State} (h : s.link.phase = .brk) (c : LineChar) (cs : List LineChar)
    (heard : List RxChar) : hearLevels (c :: cs) heard s = hearLevels cs [] (hearInBreak c s) := by
  rw [hearLevels, if_pos h]

/-- Levels that never hold the line low for two character times are characters. -/
theorem hearLevels_of_quiet {cs : List LineChar} {heard : List RxChar} {s : State} (h : s.link.phase ≠ .brk)
    (hq : ∀ front c rest, cs = front ++ c :: rest →
      front.foldl runAfter s.link.lowRun + lowAtStart c < Config.breakTimes) :
    hearLevels cs heard s =
      receive (heard ++ cs.filterMap receiveChar) (s.withLowRun (cs.foldl runAfter s.link.lowRun)) := by
  induction cs generalizing heard s with
  | nil => simp [hearLevels, State.withLowRun]
  | cons c cs ih =>
    have h0 : s.link.lowRun + lowAtStart c < Config.breakTimes := hq [] c cs rfl
    rw [hearLevels, if_neg h, if_neg (Nat.not_le.mpr h0), ih (s := s.withLowRun (runAfter s.link.lowRun c)) h fun front d rest e =>
      hq (c :: front) d rest (by rw [e]; rfl)]
    cases hc : receiveChar c <;> simp [hc, State.withLowRun]

/-- A break within levels: those before it are taken, the break begins as BREAK_BEGIN's does, and the group that completes
it and the levels after it follow. -/
theorem hearLevels_break {front rest : List LineChar} {c : LineChar} {heard : List RxChar} {s : State}
    (hp : (hearLevels front heard s).link.phase ≠ .brk)
    (hc : Config.breakTimes ≤ (hearLevels front heard s).link.lowRun + lowAtStart c) :
    hearLevels (front ++ c :: rest) heard s =
      hearLevels rest [] (hearInBreak c (settle (beginBreak (hearLevels front heard s)))) := by
  induction front generalizing heard s with
  | nil =>
    simp only [hearLevels] at hp hc
    rw [(receive_line heard s).1] at hp
    rw [(receive_line heard s).2] at hc
    rw [List.nil_append, hearLevels.eq_2, if_neg hp, if_pos hc, hearLevels.eq_1]
  | cons d front ih =>
    rw [List.cons_append]
    rw [hearLevels] at hp hc
    rw [hearLevels.eq_2 heard s d (front ++ c :: rest), hearLevels.eq_2 heard s d front]
    split
    · rename_i hb
      rw [if_pos hb] at hp hc
      exact ih hp hc
    · rename_i hb
      rw [if_neg hb] at hp hc
      split
      · rename_i hr
        rw [if_pos hr] at hp hc
        exact ih hp hc
      · rename_i hr
        rw [if_neg hr] at hp hc
        exact ih hp hc

theorem lowAtStart_charLevels (b : Byte) : lowAtStart (charLevels b) ≤ 9 := by
  revert b; decide +kernel

@[simp] theorem runAfter_charLevels (run : Nat) (b : Byte) : runAfter run (charLevels b) = 0 := by
  have h : ∀ b : Byte, runAfter 0 (charLevels b) = 0 ∧ charLevels b ≠ 0 := by decide +kernel
  rw [← (h b).1, runAfter, if_neg (h b).2, runAfter, if_neg (h b).2]

/-- A frame's own levels hold the line low for a character time at most. -/
theorem line_quiet (f : Frame) {run : Nat} (hr : run ≤ 10) (front : List LineChar) (c : LineChar)
    (rest : List LineChar) (e : f.line = front ++ c :: rest) :
    front.foldl runAfter run + lowAtStart c < Config.breakTimes := by
  have hm : ∀ d ∈ f.line, ∃ b, d = charLevels b := by
    intro d hd
    obtain ⟨b, _, h⟩ := List.mem_map.mp hd
    exact ⟨b, h.symm⟩
  have hf : front.foldl runAfter run ≤ 10 := by
    rcases List.eq_nil_or_concat front with h | ⟨fr, d, h⟩
    · subst h
      exact hr
    · obtain ⟨b, rfl⟩ := hm d (by rw [e, h]; simp)
      simp [h]
  obtain ⟨b, rfl⟩ := hm c (by rw [e]; simp)
  have := lowAtStart_charLevels b
  simp only [Config.breakTimes]
  omega

/-- A frame leaves the line high. -/
theorem line_run (f : Frame) (run : Nat) : f.line.foldl runAfter run = 0 := by
  rcases List.eq_nil_or_concat f.line with h | ⟨fr, d, h⟩
  · simp [Frame.line, Frame.bytes] at h
  · obtain ⟨b, _, hb⟩ := List.mem_map.mp (show d ∈ f.line by rw [h]; simp)
    rw [h, ← hb]
    simp

/-- A group that does not complete a break leaves a low run short of one. -/
theorem runAfter_lt {run : Nat} {c : LineChar} (h : run + lowAtStart c < Config.breakTimes) :
    runAfter run c < Config.breakTimes := by
  have h0 : lowAtStart 0 = 10 := by decide
  have hl : lowAtEnd c ≤ 10 := by
    unfold lowAtEnd
    exact (List.takeWhile_sublist _).length_le.trans (by simp)
  unfold runAfter
  split
  · rename_i e
    rw [e, h0] at h
    exact h
  · exact Nat.lt_of_le_of_lt hl (by decide)

/-! ### What the receive line keeps -/

/-- What every request passed on keeps, and the framer does not touch, the characters of a command keep. -/
theorem receive_keeps {P : State → Prop} (hf : ∀ f s, P s → P (s.withFramer f)) (hp : ∀ q s, P s → P (passOn q s))
    (cs : List RxChar) {s : State} (h : P s) : P (receive cs s) := by
  have hl : ∀ (qs : List RxRequest) (u : State), P u → P (qs.foldl (fun s q => passOn q s) u) := by
    intro qs
    induction qs with
    | nil => exact fun _ hu => hu
    | cons q qs ih => exact fun u hu => ih _ (hp q u hu)
  unfold receive
  split
  · exact h
  · exact hf _ _ (hl _ _ (hf _ _ h))

/-- What the receive line's acts keep, levels keep: the framer's moves, the requests passed on, the low run, and the
beginning and the end of a break. -/
theorem hearLevels_keeps {P : State → Prop} (hf : ∀ f s, P s → P (s.withFramer f)) (hp : ∀ q s, P s → P (passOn q s))
    (hl : ∀ run s, P s → s.link.phase ≠ .brk → run < Config.breakTimes → P (s.withLowRun run))
    (hb : ∀ s, P s → s.link.phase ≠ .brk → P (settle (beginBreak s)))
    (he : ∀ s, P s → s.link.phase = .brk → P (endBreak s)) (cs : List LineChar) (heard : List RxChar) {s : State}
    (h : P s) : P (hearLevels cs heard s) := by
  have hi : ∀ c u, P u → u.link.phase = .brk → P (hearInBreak c u) := by
    intro c u hu hk
    unfold hearInBreak
    split
    · exact hu
    · refine hl _ _ (he u hu hk) ?_ ?_
      · simp only [endBreak]
        split <;> simp
      · exact Nat.lt_of_le_of_lt ((List.takeWhile_sublist _).length_le.trans (by simp)) (by decide : 10 < Config.breakTimes)
  induction cs generalizing heard s with
  | nil => exact receive_keeps hf hp heard h
  | cons c cs ih =>
    rw [hearLevels]
    split
    · rename_i hk
      exact ih _ (hi c s h hk)
    · rename_i hk
      split
      · refine ih _ (hi c _ (hb _ (receive_keeps hf hp heard h) ?_) (beginBreak_phase _))
        rw [(receive_line heard s).1]
        exact hk
      · rename_i hr
        exact ih _ (hl _ _ h hk (runAfter_lt (Nat.lt_of_not_le hr)))

theorem onRequest_keeps {P : State → Prop} (hf : ∀ f s, P s → P (s.withFramer f)) (hp : ∀ q s, P s → P (passOn q s))
    (hl : ∀ run s, P s → s.link.phase ≠ .brk → run < Config.breakTimes → P (s.withLowRun run))
    (hb : ∀ s, P s → s.link.phase ≠ .brk → P (settle (beginBreak s)))
    (he : ∀ s, P s → s.link.phase = .brk → P (endBreak s))
    {kind seq : Byte} {payload : List Byte} {owner : ReqId → State → State}
    (ho : ∀ s, P s → P (handOn kind seq payload owner s)) {s : State} (h : P s) :
    P (onRequest kind seq payload owner s) := by
  unfold onRequest
  split
  · exact ho s h
  · exact hearLevels_keeps hf hp hl hb he _ _ h

end Sys2Proof.Machine
end

