-- ==== Sys2Proof/Tests/Slice0.lean ====
section
/-! SUPPORT. Tests of one step each, with the values of the manual's worked examples and tables, and a witness for the
hypotheses of every statement that has some: a small state and operands that meet them, clause by clause. -/

namespace Sys2Proof.Tests

open Sys2Proof.Machine

set_option Elab.async false

/-! ### Well-formed terms (R167, R170) -/

theorem test_wf_longest_payload : (Instr.echo 0 (List.replicate 4160 0)).wf = true := by
  simp only [Instr.wf, Instr.request, Instr.kindGood, List.length_replicate, Config.payloadBytes]; decide
theorem test_wf_refuses_long_payload : (Instr.echo 0 (List.replicate 4161 0)).wf = false := by
  simp only [Instr.wf, Instr.request, Instr.kindGood, List.length_replicate, Config.payloadBytes]; decide
theorem test_wf_refuses_table_kind : (Instr.unknownKindRequest Kind.echo 0 []).wf = false := by decide

/-! ### Frames (R167, R186; the worked example of chapter 10) -/

/-- The check value of the CRC that R167 names, over the nine digits. -/
theorem test_crc_check_value : crc16 [0x31, 0x32, 0x33, 0x34, 0x35, 0x36, 0x37, 0x38, 0x39] = 0x29B1 := by
  decide +kernel

/-- The ACCESS_READ of sequence 70, written out from the example's table: offsets 1 to 11. -/
theorem test_example_request_frame :
    (writeFrame (.accessRead 70 [0xA0, 0x0F, 0x00, 0x10, 0xC8, 0x00])).take 12 =
      [0x5A, 0x01, 0x20, 0x46, 0x06, 0x00, 0xA0, 0x0F, 0x00, 0x10, 0xC8, 0x00] := by decide +kernel
theorem test_example_request_fields :
    parseAccessRead [0xA0, 0x0F, 0x00, 0x10, 0xC8, 0x00] = some (0x10000FA0, 200) := by decide
/-- The reply to it with QUEUE_FULL: the single byte 0x0B; with RETRY_EXHAUSTED the status is 0x10. -/
theorem test_example_statuses : Status.queueFull.code = 0x0B ∧ Status.retryExhausted.code = 0x10 := by decide

/-! ### Small states -/

/-- The descriptor of the worked example of chapter 5. -/
def dsc : Descriptor :=
  { cls := 0x34, revision := 1, attention := true, swap := false, spaceLog2 := 20, heartbeatAddr := 0x000100
    postAddr := 0x000200, maxPost := 128 }

/-- Slot 4 in a state, its module present and enrolled once. -/
def slotIn (st : SlotState) (timer : Option SlotTimer) : State :=
  { State.reset with
    pins := { State.reset.pins with presence := (Vector.replicate 16 false).set 4 true }
    sup := { slots := (Vector.replicate 16 {}).set 4 { state := st, descriptor := some dsc, timer := timer }, work := [] } }

/-- Slot 4 ACTIVE with its check timer running. -/
def active : State := slotIn .active (some { kind := .check, ms := 100 })

/-- The record of the window W2 of the worked example of chapter 1, but onto slot 4. -/
def win : Window := { state := .enabled, base := 0x40000000, sizeLog2 := 20, slot := 4, moduleBase := 0x300000 }

/-- Slot 4 in a state with a timer of a kind running. -/
def timed (st : SlotState) (k : TimerKind) : State := slotIn st (some { kind := k, ms := 20 })

/-- A request accepted in the first session. -/
def rq (seq kind : Byte) : ReqId := { seq := seq, kind := kind, crc := 0, session := 0 }

/-- A cycle of a hold: READ of 4 bytes of slot 4. -/
def cyc : Cycle := { req := rq 81 Kind.holdCycle, slot := 4, command := .read, addr := 0x40, count := 4, data := [] }

/-- The read of the worked example of chapter 1, event 3. -/
def rd : Transfer :=
  { req := rq 22 Kind.accessRead, kind := .read, window := 2, start := 0x40012340, length := 128 }

/-- A posted write of one byte, sequence 61. -/
def posted : Transfer :=
  { rd with req := rq 61 Kind.accessWrite, kind := .write [1], length := 1, posted := true }

/-- An ACTIVE slot 4 behind window 2 and one transfer in the queue. -/
def queued (x : Transfer) : State :=
  { active with
    windows := (Vector.replicate 8 {}).set 2 { win with useCount := 1 }
    xfer := { queue := [.transfer x] } }

/-- The transfer's grant is due. -/
def granting (x : Transfer) : State :=
  { queued x with arb := { waiting := { transfer := true }, choice := some .transfer } }

/-- What an answer of a step leaves, by a reading of the state. -/
def after {α : Type} (o : Host.Outcome State Fault Refusal) (f : State → α) : Option α :=
  match o with
  | .next t => some (f t)
  | _ => none

/-- The last reply in the queue: sequence, status and payload. -/
def lastReply (s : State) : Option (Byte × Status × List Byte) :=
  s.link.replies.getLast?.map fun r => (r.seq, r.status, r.body)

/-! ### The receive line (R165, R168) -/

/-- The sync byte on the line, least significant data bit first between a low and a high bit; its stop bit low. -/
theorem test_line_character :
    charLevels 0x5A = 0b1010110100 ∧ receiveChar 0b1010110100 = some (.byte 0x5A) ∧
    receiveChar 0b0010110100 = some .framingError ∧ receiveChar 0b1111111111 = none := by decide

/-- A request's characters that arrive inside an unfinished frame continue it. Here they end it with a CRC that does not
match, and the request is found at its own sync byte. -/
theorem test_request_found_in_frame :
    after (exec (.echo 7 [4]) { State.reset with link := { framer := .frame [0x5A, 1, 2, 3, 3, 0] } }) lastReply =
      some (some (7, .ok, [4])) := by decide +kernel
theorem test_request_continues_frame :
    after (exec (.echo 7 [4]) { State.reset with link := { framer := .frame [0x5A, 1, 2, 3, 9, 0] } })
      (fun s => (s.link.replies.length, s.link.framer)) =
      some (0, .frame ([0x5A, 1, 2, 3, 9, 0] ++ (requestFrame Kind.echo 7 [4]).bytes)) := by decide +kernel

/-- R166: nineteen low levels are no break and twenty are one, in one command or over two; a high level ends it. -/
theorem test_line_break :
    after (exec (.frameDiscard [0, 0b1000000000]) State.reset) (fun s => (s.link.phase, s.link.session)) =
      some (.opened, 0) ∧
    after (exec (.frameDiscard [0, 0]) State.reset) (fun s => (s.link.phase, s.link.session)) = some (.brk, 1) ∧
    after (exec (.frameDiscard [0]) { State.reset with link := { lowRun := 10 } })
      (fun s => (s.link.phase, s.link.session)) = some (.brk, 1) ∧
    after (exec (.frameDiscard [0, 0, 0b0111111111]) State.reset)
      (fun s => (s.link.phase, s.link.session, s.link.lowRun)) = some (.opened, 1, 1) := by decide +kernel

/-- R166: a frame's first high level ends a break; its sync character is lost with it. -/
theorem test_request_ends_break :
    after (exec (.echo 7 [4]) { State.reset with link := { phase := .brk } })
      (fun s => (s.link.phase, s.link.framer, s.link.replies.length)) = some (.opened, .hunt, 0) := by decide +kernel

/-! ### The worked examples, one step each -/

/-- Chapter 1, event 1: W2 set, and 0x40012340 translated to 0x312340 on slot 3. -/
theorem test_window_set :
    after (exec (.windowSet 20 [2, 0, 0, 0, 0x40, 20, 0, 0, 0, 3, 0, 0, 0x30, 0, 0]) State.reset)
      (fun s => (lastReply s, (s.window 2).state, translate s (s.window 2) 0x40012340 false)) =
      some (some (20, .ok, []), .enabled, .to 3 0x312340 none) := by decide +kernel

/-- Chapter 1, event 2: a read that passes the window's end is refused RANGE. -/
theorem test_access_past_end :
    after (exec (.accessRead 21 [0xF0, 0xFF, 0x0F, 0x40, 32, 0]) { active with windows := active.windows.set 2 win })
      (fun s => (lastReply s, s.xfer.queue.length, (s.window 2).useCount)) =
      some (some (21, .range, []), 0, 0) := by decide +kernel

/-- Chapter 1, event 4: a write that ends at the window's end is accepted and not yet answered. -/
theorem test_access_to_end :
    after (exec (.accessWrite 23 ([0xC0, 0xFF, 0x0F, 0x40] ++ List.replicate 64 7)) (queued rd))
      (fun s => (lastReply s, s.xfer.queue.length, (s.window 2).useCount)) = some (none, 2, 2) := by decide +kernel

/-- Chapter 1, event 5: WINDOW_CLEAR of a window in use makes it CLOSING. -/
theorem test_window_clear :
    after (exec (.windowClear 24 [2]) (queued rd)) (fun s => (lastReply s, (s.window 2).state, s.link.unreplied.length)) =
      some (none, .closing, 1) := by decide +kernel

/-- Chapter 1, event 7: a range that meets a CLOSING window is refused OVERLAP. -/
theorem test_window_overlap :
    after (exec (.windowSet 26 [5, 0, 0, 8, 0x40, 19, 0, 0, 0, 7, 0, 0, 0, 0, 0])
        { State.reset with windows := State.reset.windows.set 2 { win with state := .closing, useCount := 1 } })
      (fun s => (lastReply s, (s.window 5).state)) = some (some (26, .overlap, []), .disabled) := by decide +kernel

/-- Chapter 2: page 7 of W4 names P107, slot 2, module 0x017FC0; P115 is READ_ONLY. -/
theorem test_page_write :
    after (exec (.pageWrite 40 [107, 0, 1, 1, 0, 2, 0x17, 0x00]) State.reset)
      (fun s => (lastReply s, translate s { win with kind := .paged, base := 0x20000000, sizeLog2 := 16, origin := 100 }
        0x20007FC0 true)) = some (some (40, .ok, []), .to 2 0x017FC0 (some 107)) := by decide +kernel

/-- Chapter 2, event 6 in kind: a sweep returns and clears both indications of its entry alone. -/
theorem test_page_sweep :
    after (exec (.pageSweep 44 [107, 0, 1, 0])
        ((State.reset.setPage 107 { valid := true, referenced := true, written := true }).setPage 108
          { valid := true, referenced := true }))
      (fun s => (lastReply s, (s.page 107).referenced, (s.page 108).referenced)) =
      some (some (44, .ok, [3]), false, true) := by decide +kernel

/-- Chapter 3, the segments of a 200-byte read from 0x10000FA0: 32, 64, 64 and 40 bytes. -/
theorem test_segments :
    [0, 32, 96, 160].map (fun n => ({ rd with start := 0x10000FA0, length := 200, completed := n } : Transfer).segmentLength)
      = [32, 64, 64, 40] := by decide

/-- Chapter 3, event 3: the grant puts the segment on the backplane; the first segment of `rd` is a whole line. -/
theorem test_transfer_grant :
    after (exec .transferGrant (granting rd))
      (fun s => (s.arb.holder, s.ctrl.tx.map fun t => (t.command, t.slot, t.addr, t.count))) =
      some (some .transfer, some (.read, 4, 0x312340, 64)) := by decide +kernel

/-- Chapter 3.11, event 4: RETRY below the limit pauses the head for RETRY_DELAY. -/
theorem test_segment_retry :
    (segmentResult { rd with issued := 64, state := .issuing } (4, 0x312340) .retry [] (queued rd)).xfer.queue =
      [.transfer { rd with issued := 64, state := .paused 100, retries := 1 }] := by decide +kernel

/-- The state after the write of sequence 61 is REJECTED, with one failure counted before and 18 the next number. -/
def rejected : State :=
  segmentResult posted (6, 0x040200) .reject []
    { queued posted with faults := { next := 18, given := true }
                         xfer := { queue := [.transfer posted], postedFailures := 1 } }

/-- Chapter 3.12, event 5: a posted write that is REJECTED makes record 18 and counts. -/
theorem test_posted_failure :
    rejected.xfer.postedFailures = 2 ∧ rejected.faults.next = 19 ∧
      rejected.faults.entries.map FaultEntry.record =
        [{ number := 18, kind := .postedWrite, code := .status .rejected, seq := some 61, slot := some 6
           bridge := some 0x40012340, moduleAddr := some 0x040200, completed := some 0 }] := by decide +kernel

/-- Chapter 3.12, event 6: a fence reports the posted-failure count and returns it to 0. -/
theorem test_fence :
    after (exec (.accessFence 62 []) { active with xfer := { postedFailures := 2 } })
      (fun s => (lastReply s, s.xfer.postedFailures)) = some (some (62, .ok, [2, 0]), 0) := by decide +kernel

/-- Chapter 3.11, the last paragraph: an abort of a PAUSED head is answered after the transfer's own ABORTED. -/
theorem test_abort :
    after (exec (.accessAbort 72 [22]) (queued { rd with state := .paused 100, completed := 64 }))
      (fun s => (s.link.replies.map (fun r => (r.seq, r.status)), s.xfer.queue.length)) =
      some ([(22, .aborted), (72, .ok)], 0) := by decide +kernel

/-- R66, the table of words and lanes, its four rows. -/
theorem test_words_and_lanes :
    [((0x012340 : ModAddr), 64), (0x0123A5, 27), (0x100040, 40), (0x207102, 1)].map (fun x =>
      let t : Tx := { requester := .transfer, command := .write, slot := 0, addr := x.1, count := x.2 }
      (t.wordCount, [0, 1, 2, 3].filter (t.laneEnabled 0), [0, 1, 2, 3].filter (t.laneEnabled (t.wordCount - 1)))) =
      [(16, [0, 1, 2, 3], [0, 1, 2, 3]), (7, [1, 2, 3], [0, 1, 2, 3]), (10, [0, 1, 2, 3], [0, 1, 2, 3]),
       (1, [2], [2])] := by decide

/-- Chapter 4, the worked example: lines 4, 3, 2 and 5 of R75. -/
theorem test_choices :
    [choose { transfer := true, inbound := true } 3 4, choose { transfer := true, inbound := true } 4 4,
     choose { supervise := true, transfer := true, inbound := true } 1 4, choose { inbound := true } 2 4,
     choose { hold := true, supervise := true } 0 4] =
      [some .transfer, some .inbound, some .supervise, some .inbound, some .hold] := by decide

/-- Chapter 5, event 1: INSERTED into SETTLING with 250 ms. -/
theorem test_presence_active :
    after (exec (.presenceActive 11) State.reset) (fun s => ((s.slot 11).state, (s.slot 11).lastCause, (s.slot 11).timer)) =
      some (.settling, .inserted, some { kind := .settle, ms := 250 }) := by decide +kernel

/-- Chapter 5, event 2: a bounce returns SETTLING to EMPTY, REMOVED. -/
theorem test_presence_inactive :
    after (exec (.presenceInactive 4) (slotIn .settling (some { kind := .settle, ms := 250 })))
      (fun s => ((s.slot 4).state, (s.slot 4).lastCause)) = some (.empty, .removed) := by decide +kernel

/-- Chapter 5, event 4: attempt 1 begins with a DESCRIPTOR_READ item. -/
theorem test_settle_expiry :
    after (exec (.settleTimerExpiry 4) (slotIn .settling (some { kind := .settle, ms := 250 })))
      (fun s => ((s.slot 4).state, (s.slot 4).lastCause, (s.slot 4).attempts, s.sup.work, s.arb.choice)) =
      some (.enrolling, .settled, 1, [{ slot := 4, read := .descriptor }], some .supervise) := by decide +kernel

/-- The 64 bytes of the descriptor of chapter 5's event 6, laid out by R192, with a checksum byte. -/
def descriptorBytes64 (sum : Byte) : List Byte :=
  [0x52, 0x42, 1, 0x34, 1, 1, 20, 0x00, 0x01, 0x00, 0x00, 0x02, 0x00, 128, 0] ++ List.replicate 48 0 ++ [sum]

/-- Chapter 5, events 5 and 6: the byte sum must be 0 mod 256. The fields sum to 0x162. -/
theorem test_descriptor :
    (match validateDescriptor (descriptorBytes64 0x9E) with | .ok d => d = dsc | .error _ => false) = true ∧
    (match validateDescriptor (descriptorBytes64 0x9F) with | .ok _ => none | .error c => some c) =
      some .enrollBadChecksum := by decide +kernel

/-- Chapter 5, event 7: the baseline read's ACK makes the slot ACTIVE with the next epoch and its check timer. -/
theorem test_enrolled :
    (fun r : Slot => (r.state, r.epoch, r.heartbeat, r.lastCause, r.timer))
      ((superviseResult 4 .ack [0x07, 0x3A, 0, 0]
        (active.modifySlot 4 fun r => { r with state := .enrolling, epoch := 4, timer := none, step := .baselineRead
                                               held := some dsc })).slot 4) =
      (.active, 5, 0x00003A07, .enrolled, some { kind := .check, ms := 100 }) := by decide +kernel

/-- Chapter 6, event 3: HELD with the limit timer started, OK with the limit, and the pending check skipped. -/
theorem test_hold_grant :
    after (exec .holdGrant { active with
        arb := { waiting := { hold := true, supervise := true }, choice := some .hold }
        hold := { state := .pending, acquire := some (rq 80 Kind.holdAcquire), limit := some 300 }
        sup := { active.sup with work := [{ slot := 4, read := .check }] } })
      (fun s => (lastReply s, s.hold.limitTimer, s.sup.work, (s.slot 4).skip)) =
      some (some (80, .ok, [0x2C, 0x01]), some 300, [], 1) := by decide +kernel

/-- Slot 4 ACTIVE under a hold of 300 ms. -/
def held : State :=
  { active with arb := { holder := some .hold }, hold := { state := .held, limit := some 300, limitTimer := some 300 } }

/-- Chapter 6, event 7: a cycle to a slot without presence ends ABSENT (raw result 6) at its start. -/
theorem test_hold_cycle_absent :
    after (exec (.holdCycle 82 [12, 0, 0, 0, 0, 4]) held) (fun s => (lastReply s, s.hold.cycle)) =
      some (some (82, .ok, [6]), none) := by decide +kernel

/-- Chapter 6, event 5: a cycle's READ is on the backplane as its fields name it. -/
theorem test_hold_cycle_read :
    after (exec (.holdCycle 81 [4, 0, 0x40, 0, 0, 4]) held)
      (fun s => s.ctrl.tx.map fun t => (t.requester, t.command, t.slot, t.addr, t.count)) =
      some (some (.hold, .read, 4, 0x40, 4)) := by decide +kernel

/-- R120, R122: the expiry ends a hold with no cycle in progress at once and HOLD_END is pending with the limit. -/
theorem test_limit_expiry :
    after (exec .limitTimerExpiry held) (fun s => (s.hold.state, s.notices.holdEnd, s.arb.holder)) =
      some (.idle, some 300, none) := by decide +kernel

/-- R119: a release of a HELD hold is answered OK at its end. -/
theorem test_hold_release :
    after (exec (.holdRelease 83 []) held) (fun s => (lastReply s, s.hold.state, s.notices.holdEnd)) =
      some (some (83, .ok, []), .idle, none) := by decide +kernel

/-- R115: a limit over HOLD_LIMIT is refused RANGE, and 500 itself is taken. -/
theorem test_hold_acquire :
    after (exec (.holdAcquire 80 [0xF5, 0x01]) active) (fun s => (lastReply s, s.hold.state)) =
      some (some (80, .range, []), .idle) ∧
    after (exec (.holdAcquire 80 [0xF4, 0x01]) active) (fun s => (lastReply s, s.hold.state, s.arb.choice)) =
      some (none, .pending, some .hold) := by decide +kernel

/-- Slot 4 asks for attention with its INBOUND grant due. -/
def calling : State :=
  { active with
    pins := { active.pins with attention := (Vector.replicate 16 false).set 4 true }
    arb := { waiting := { inbound := true }, choice := some .inbound } }

/-- Chapter 7, event 1: slot 4 is selected, the pointer becomes 5, and its header is read. -/
theorem test_inbound_grant :
    after (exec .inboundGrant calling)
      (fun s => (s.inb.pointer, s.ctrl.tx.map fun t => (t.command, t.slot, t.addr, t.count))) =
      some (5, some (.read, 4, 0x000200, 4)) := by decide +kernel

/-- The service of chapter 7's slot 4, with its post address. -/
def svc (step : ServiceStep) : Service := { slot := 4, epoch := 2, postAddr := 0x000400, step := step }

/-- Chapter 7, event 1: a header of length 100 reserves 100 bytes and the step becomes BODY. -/
theorem test_header :
    (serviceResult (svc .header) .ack [100, 0, 1, 0x11]
      { active with inb := { service := some (svc .header) } }).inb.reserved = 100 := by decide +kernel

/-- Chapter 7, event 2: the body's reads of 60 and 40 bytes, and the take word at A + 260. -/
theorem test_body_reads :
    ({ svc .body with length := 100 } : Service).tx.count = 60 ∧
    ({ svc .body with length := 100, body := List.replicate 60 0 } : Service).tx.addr = 0x000440 ∧
    ({ svc .body with length := 100, body := List.replicate 60 0 } : Service).tx.count = 40 ∧
    ({ svc .take with tag := 0x11 } : Service).tx.addr = 0x000504 ∧
    ({ svc .take with tag := 0x11 } : Service).tx.writeData = [0x11, 0, 0, 0] := by decide +kernel

/-- R145: credits saturate at 64, and 65 is out of range. -/
theorem test_post_credit :
    after (exec (.postCredit 5 [2]) { State.reset with inb := { credits := 63 } }) lastReply = some (some (5, .ok, [64])) ∧
    after (exec (.postCredit 5 [65]) State.reset) lastReply = some (some (5, .range, [])) := by decide +kernel

/-- R144: only the slots whose change flag is set take their value flag. -/
theorem test_attention_mask :
    after (exec (.attentionMask 6 [0x03, 0x80, 0x01, 0xFF]) State.reset) lastReply =
      some (some (6, .ok, [0x01, 0x80])) := by decide +kernel

/-- Chapter 8, event 2: a full list loses its oldest, and the number after 0xFFFFFFFF is 0. -/
theorem test_record_wraps :
    (fun s : State => (s.faults.entries.length, s.faults.next, s.faults.entries.getLast?.map fun e => e.record.lost))
      (makeRecord { kind := .inbound, code := .badLength }
        { State.reset with faults := { entries := List.replicate 32 { record := { kind := .slot, code := .badLength }
                                                                      pending := false }
                                       next := 0xFFFFFFFF, given := true } }) = (32, 0, some true) := by decide +kernel

/-- Three records numbered 0xFFFFFFFF, 0 and 1, and 2 the next number. -/
def threeFaults : Faults :=
  { entries := [0xFFFFFFFF, 0, 1].map fun n =>
      { record := { kind := .slot, code := .slot .silent, number := n }, pending := false }
    next := 2, given := true }

/-- R153 to R155 over the wrap: number 0 is older than 1 and 2 has not been given. -/
theorem test_fault_clear :
    after (exec (.faultClear 7 [0, 0, 0, 0]) { State.reset with faults := threeFaults }) lastReply =
      some (some (7, .ok, [2, 1])) ∧
    after (exec (.faultClear 7 [2, 0, 0, 0]) { State.reset with faults := threeFaults }) lastReply =
      some (some (7, .range, [])) := by decide +kernel
theorem test_fault_read :
    after (exec (.faultRead 8 [0, 0, 0, 0, 1]) { State.reset with faults := threeFaults })
      (fun s => (lastReply s).map fun x => (x.2.2.take 10, x.2.2.length)) =
      some (some ([1, 3, 2, 0, 0, 0, 0, 0, 0, 0], 32)) := by decide +kernel

/-- R161: disabling SLOT_STATE clears what is pending of it and a flag beyond the mask is RANGE. -/
theorem test_notice_mask :
    after (exec (.noticeMask 9 [1, 0]) State.reset) (fun s => (lastReply s, s.notices.slotPending[3])) =
      some (some (9, .ok, [6]), false) ∧
    after (exec (.noticeMask 9 [8, 0]) State.reset) lastReply = some (some (9, .range, [])) := by decide +kernel

/-- R152: the stamp wraps. -/
theorem test_stamp_wraps :
    after (exec .stampTick { State.reset with stamp := 0xFFFFFFFF }) State.stamp = some 0 := by decide +kernel

/-- Chapter 9, event 3: a repeat of an unreplied request is not accepted again. -/
theorem test_repeat_discarded :
    after (exec (.echo 30 [1]) { State.reset with link := { unreplied := [rq 30 Kind.accessWrite] } })
      (fun s => (s.link.unreplied.length, s.link.replies)) = some (1, []) := by decide +kernel

/-- R170: a kind code that names no request, and the echo of an accepted one. -/
theorem test_unknown_kind :
    after (exec (.unknownKindRequest 0xEE 1 [4]) State.reset) lastReply = some (some (1, .unknownKind, [])) := by
  decide +kernel
theorem test_echo : after (exec (.echo 2 [4, 5]) State.reset) lastReply = some (some (2, .ok, [4, 5])) := by decide +kernel

/-- R180, R181: the defaults' first pairs in order, and a CHECK_INTERVAL of 9 refused. -/
theorem test_config :
    after (exec (.configGet 3 []) State.reset) (fun s => (lastReply s).map fun x => x.2.2.take 9) =
      some (some [1, 200, 0, 2, 8, 0, 3, 100, 0]) ∧
    after (exec (.configSet 4 [8, 9, 0]) State.reset) lastReply = some (some (4, .range, [])) ∧
    after (exec (.configSet 4 [8, 10, 0]) State.reset) (fun s => (lastReply s, s.params.checkInterval)) =
      some (some (4, .ok, [8, 10, 0]), 10) := by decide +kernel

/-- R174: LINK_UP goes before the SLOT_STATE notices after power-on, with the notice counter 0. -/
theorem test_first_frame :
    after (exec .outputFrameBegin State.reset) (fun s => (s.link.linkUp, s.link.noticeCounter,
      s.link.transmitter.map fun x => (x.1.kind, x.1.seq, x.1.payload.length))) =
      some (none, 1, some (0x80, 0, 25)) := by decide +kernel

/-- R177: a break ends the session and clears the credits. -/
theorem test_break :
    after (exec .breakBegin { State.reset with inb := { credits := 3 } })
      (fun s => (s.link.phase, s.link.session, s.inb.credits)) = some (.brk, 1, 0) := by decide +kernel

/-- R85, R165: power-on samples presence and the straps. -/
theorem test_power_on :
    after (exec (.powerOn ⟨false, true, false, 0x0010, 0⟩) State.reset)
      (fun s => (s.link.rate, (s.slot 4).state, (s.slot 5).state)) = some (.baud3000000, .settling, .empty) := by
  decide +kernel

/-! ### The queue of commands -/

theorem test_step_takes_front :
    (match step { State.reset with pending := [.stampTick, .breakBegin] } with
      | .next s => (s.stamp, s.pending)
      | _ => (0, [])) = (1, [.breakBegin]) := by decide +kernel

/-! ### Witnesses: for each statement with hypotheses, states and operands that meet them, clause by clause

The clauses of a request's statement part its payloads and states; each line below is one clause's hypotheses beyond
acceptance, at a boundary of its range where it has one. -/

/-- A link with nothing cached and nothing unreplied accepts every request a frame can hold. -/
theorem accepts_idle {kind seq : Byte} {payload : List Byte} {s : State}
    (h : s.link.phase = .opened ∧ s.link.framer = .hunt ∧ s.link.lowRun = 0 ∧ s.link.cache = [] ∧ s.link.unreplied = [])
    (hp : payload.length ≤ Config.payloadBytes) : Accepts kind seq payload s :=
  ⟨h.1, h.2.1, h.2.2.1, hp, by simp [h.2.2.2.1], by simp [h.2.2.2.2], by simp [h.2.2.2.2, Config.unrepliedRequests]⟩

/-- The cache entry of an ECHO of sequence 9. -/
def again : CacheEntry :=
  { seq := 9, kind := Kind.echo, crc := (requestFrame Kind.echo 9 [1, 2]).crc, status := .ok, body := [1, 2] }

/-- A link with some requests unreplied, of sequences 20 on. -/
def unreplied (n : Nat) : State :=
  { State.reset with link := { unreplied := (List.range n).map fun k => rq (byteOf (20 + k)) Kind.accessRead } }

theorem witness_RequestExamination :
    (Instr.echo 9 [1, 2]).wf = true ∧ (Instr.echo 9 [1, 2]).request = some (Kind.echo, 9, [1, 2]) ∧
    [again].find? (fun e => e.seq = 9 ∧ e.kind = Kind.echo ∧ e.crc = (requestFrame Kind.echo 9 [1, 2]).crc) = some again ∧
    (unreplied 8).link.phase = .opened ∧ (∃ r ∈ (unreplied 8).link.unreplied, r.seq = 20) ∧
    (∀ r ∈ (unreplied 8).link.unreplied, r.seq ≠ 9) ∧ (unreplied 8).link.unreplied.length = 8 ∧
    (unreplied 7).link.unreplied.length < 8 ∧ (unreplied 7).link.cache = [] := by decide +kernel

theorem witness_FramerReceives :
    (Instr.echo 9 [1]).request = some (Kind.echo, 9, [1]) ∧ (Instr.echo 9 [1]).wf = true ∧
    State.reset.link.phase ≠ .brk ∧ State.reset.link.framer = .hunt ∧ State.reset.link.lowRun = 0 ∧
    (0b1000000000 : LineChar) ≠ 0 ∧ 10 + lowAtStart 0b1000000000 < 20 ∧ 20 ≤ 10 + lowAtStart 0 ∧
    ({ State.reset.link with phase := .brk } : Link).phase = .brk ∧ (RxChar.framingError ≠ .byte 0x5A) ∧
    Config.payloadBytes < (le16 0x41 0x10).toNat ∧ ¬Config.payloadBytes < (le16 0x40 0x10).toNat ∧
    le16 0 0 ≠ (requestFrame Kind.echo 9 [1]).crc ∧ FrameClass.reply ≠ .request ∧
    headerLength [1, 2, 3, 4, 0] ≤ Config.payloadBytes ∧ [(1 : Byte), 2, 3, 4, 0].length < 7 + headerLength [1, 2, 3, 4, 0] := by
  decide +kernel

theorem witness_LineCharacters :
    (charLevels 0xFF).getLsbD 0 = false ∧ (charLevels 0xFF).getLsbD 9 = true ∧ (0 : LineChar).getLsbD 9 = false ∧
    State.reset.link.transmitter = none ∧ ((requestFrame Kind.echo 9 []).bytes)[7]?.isSome = true ∧
    (1 : LineChar).getLsbD 0 = true ∧ lowAtStart 0b1000000000 < 10 ∧ (1 : LineChar) ≠ 0 := by decide +kernel

theorem witness_RequestFrameRoundTrip :
    (Instr.accessRead 70 [0xA0, 0x0F, 0x00, 0x10, 0xC8, 0x00]).wf = true ∧
    (Instr.unknownKindRequest 0xEE 0 []).wf = true ∧ (Instr.unknownKindRequest 0xEE 0 []).request.isSome = true := by
  decide +kernel

/-- The fields of WINDOW_SET in chapter 1's event 1. -/
def w2Fields : WindowFields :=
  { index := 2, base := 0x40000000, sizeLog2 := 20, kind := 0, access := 0, policy := 0, slot := 3, moduleBase := 0x300000
    origin := 0 }

theorem witness_WindowSet_good : w2Fields.Good :=
  ⟨by decide, by decide, by decide, by decide, by decide, by decide, by decide, by decide⟩
theorem witness_WindowSet_overlap : w2Fields.taken.SharesWith { win with base := 0x400FF000, sizeLog2 := 12 } :=
  ⟨0x400FFFFF, by decide, by decide, by decide, by decide⟩
theorem witness_WindowSet_apart : ∀ v : WindowId, v ≠ 2 → (State.reset.window v).state = .disabled := by decide +kernel
theorem witness_WindowSet :
    Accepts Kind.windowSet 20 [2, 0, 0, 0, 0x40, 20, 0, 0, 0, 3, 0, 0, 0x30, 0, 0] State.reset ∧
    parseWindowSet [2, 0, 0, 0, 0x40, 20, 0, 0, 0, 3, 0, 0, 0x30, 0, 0] = some w2Fields ∧
    parseWindowSet [2] = none ∧ ¬{ w2Fields with index := 8 }.Good ∧ ((queued rd).window 2).state = .enabled ∧
    ((queued rd).window 2).useCount = 1 :=
  ⟨accepts_idle ⟨rfl, rfl, rfl, rfl, rfl⟩ (by decide), by decide, by decide, fun h => absurd h.index (by decide), by decide +kernel,
    by decide +kernel⟩

/-- Window 2 CLOSING with a use count, a WINDOW_CLEAR of sequence 24 owed. -/
def closing (n : Nat) : State :=
  State.reset.setWindow 2 { win with state := .closing, useCount := n, clearReply := some (rq 24 Kind.windowClear) }

theorem witness_WindowClearAndDrain :
    Accepts Kind.windowClear 27 [2] (closing 1) ∧ ((closing 1).window 2).state = .closing ∧
    ((closing 1).window 2).useCount = 1 ∧ ((closing 0).window 2).useCount = 0 ∧
    ((closing 1).window 2).clearReply = some (rq 24 Kind.windowClear) ∧ ((closing 1).window 3).state = .disabled ∧
    ((queued rd).window 2).state = .enabled ∧ 1 < ((closing 2).window 2).useCount ∧
    7 < (8 : Byte).toNat ∧ (7 : WindowId).val = (7 : Byte).toNat :=
  ⟨accepts_idle ⟨rfl, rfl, rfl, rfl, rfl⟩ (by decide), by decide +kernel⟩

theorem witness_WindowGet :
    Accepts Kind.windowGet 28 [7] State.reset ∧ (7 : WindowId).val = (7 : Byte).toNat ∧ 7 < (8 : Byte).toNat :=
  ⟨accepts_idle ⟨rfl, rfl, rfl, rfl, rfl⟩ (by decide), by decide⟩

theorem witness_RepliesAndUnownedRequests :
    (rq 1 2).session = State.reset.link.session ∧ { rq 1 2 with session := 1 }.session ≠ State.reset.link.session ∧
    namesRequest 0xEE = false ∧ Accepts 0xEE 1 [] State.reset ∧ Accepts Kind.bridgeReset 1 [7] State.reset :=
  ⟨rfl, by decide, by decide, accepts_idle ⟨rfl, rfl, rfl, rfl, rfl⟩ (by decide), accepts_idle ⟨rfl, rfl, rfl, rfl, rfl⟩ (by decide)⟩

/-- A set of values for one page entry, at the largest slot and frame. -/
def lastSet : PageSet := { valid := 1, access := 1, slot := 15, frame := 4095 }

theorem witness_PageWrite :
    Accepts Kind.pageWrite 40 [0xFF, 0x07, 1, 1, 1, 15, 0xFF, 0x0F] State.reset ∧
    parsePageWrite [0xFF, 0x07, 1, 1, 1, 15, 0xFF, 0x0F] = some (2047, [lastSet]) ∧ 2047 + [lastSet].length - 1 ≤ 2047 ∧
    lastSet.Good ∧ ¬{ lastSet with frame := 4096 }.Good ∧ parsePageWrite [0, 8, 1, 1, 1, 15, 0, 0] ≠ none ∧
    [(0 : Byte), 0, 2, 1, 0, 0, 0, 0].length ≠ 3 + 5 * (byteAt [(0 : Byte), 0, 2, 1, 0, 0, 0, 0] 2).toNat :=
  ⟨accepts_idle ⟨rfl, rfl, rfl, rfl, rfl⟩ (by decide), by decide, by decide, ⟨by decide, by decide, by decide, by decide⟩,
    fun h => absurd h.frame (by decide), by decide, by decide⟩

theorem witness_PageReadAndSweep :
    Accepts Kind.pageRead 41 [0xC0, 0x07, 64] State.reset ∧ parsePageRead [0xC0, 0x07, 64] = some (1984, 64) ∧
    1984 + 64 - 1 ≤ 2047 ∧ Accepts Kind.pageSweep 42 [0, 7, 0, 1] State.reset ∧
    parsePageSweep [0, 7, 0, 1] = some (1792, 256) ∧ 1792 + 256 - 1 ≤ 2047 ∧
    parsePageRead [0xC1, 0x07, 64] = some (1985, 64) ∧ 2047 < 1985 + 64 - 1 :=
  ⟨accepts_idle ⟨rfl, rfl, rfl, rfl, rfl⟩ (by decide), by decide, by decide, accepts_idle ⟨rfl, rfl, rfl, rfl, rfl⟩ (by decide), by decide,
    by decide, by decide, by decide⟩

/-- Window 2 ENABLED with no transfer, POSTED. -/
def postedWindow : State := { active with windows := active.windows.set 2 { win with policy := .posted } }

/-- Window 2 ENABLED and READ_ONLY, and a full queue. -/
def fullQueue : State :=
  { active with windows := active.windows.set 2 { win with access := .readOnly, useCount := 16 }
                xfer := { queue := List.replicate 16 (.transfer rd) } }

theorem witness_AccessAcceptance_refused :
    (Instr.accessSwap 50 [2, 0, 0, 0x40, 0, 0, 0, 0, 1, 0, 0, 0]).wf = true ∧ isAccessKind Kind.accessSwap = true ∧
    accessOf (.accessSwap 50 [2, 0, 0, 0x40, 0, 0, 0, 0, 1, 0, 0, 0]) = some (0x40000002, 4, .swap 0 1) ∧
    (0x40000002 : Word).toNat % 4 ≠ 0 ∧ accessOf (.accessSwap 50 []) = none ∧ 16 ≤ fullQueue.xfer.queue.length ∧
    (∀ w, (State.reset.window w).holds 0x40000000 = false) ∧ hit postedWindow 0x400FFFF1 = some 2 ∧
    (postedWindow.window 2).base.toNat + 2 ^ (postedWindow.window 2).sizeLog2 < (0x400FFFF1 : Word).toNat + 16 ∧
    (fullQueue.window 2).access = .readOnly ∧ (XferKind.write [1]).isWrite = true := by decide +kernel
theorem witness_AccessAcceptance_taken :
    Accepts Kind.accessWrite 51 [0xF0, 0xFF, 0x0F, 0x40, 1] postedWindow ∧
    accessOf (.accessWrite 51 [0xF0, 0xFF, 0x0F, 0x40, 1]) = some (0x400FFFF0, 1, .write [1]) ∧
    hit postedWindow 0x400FFFF0 = some 2 ∧ (postedWindow.window 2).policy = .posted ∧
    (postedWindow.window 2).access = .readWrite ∧ postedWindow.xfer.queue.length < 16 ∧
    (0x400FFFF0 : Word).toNat + 16 ≤ (postedWindow.window 2).base.toNat + 2 ^ (postedWindow.window 2).sizeLog2 ∧
    ((queued rd).window 2).policy = .acknowledged :=
  ⟨accepts_idle ⟨rfl, rfl, rfl, rfl, rfl⟩ (by decide), by decide +kernel⟩

/-- The laws of the window table in a state with one window and one transfer through it. -/
theorem queued_windowLaw : (queued rd).WindowLaw :=
  { queue := by decide +kernel, failures := by decide +kernel, uses := by decide +kernel, closing := by decide +kernel
    disabled := by decide +kernel, owed := by decide +kernel, size := by decide +kernel, aligned := by decide +kernel
    mapped := by decide +kernel, apart := by decide +kernel }

theorem witness_HitAndTranslation :
    (queued rd).WindowLaw ∧ ((queued rd).window 2).holds 0x400FFFFF = true ∧ ((queued rd).window 2).kind = .direct ∧
    ((State.reset.setPage 5 { valid := true, frame := 0xFFF, access := .readOnly }).page 5).valid = true ∧
    (State.reset.page 2047).valid = false ∧ (0xFFFFFF : ModAddr).toNat = (0xFFF : BitVec 12).toNat * 4096 + 4095 :=
  ⟨queued_windowLaw, by decide +kernel⟩

theorem witness_Fence :
    Accepts Kind.accessFence 62 [] (queued rd) ∧ (queued rd).xfer.queue = .transfer rd :: [] ∧
    State.reset.xfer.queue = [] ∧ 16 ≤ fullQueue.xfer.queue.length ∧
    (∀ q, ([.transfer rd] : List QEntry).head? ≠ some (.fence q)) ∧
    (∀ r, (queued rd).xfer.queue.head? ≠ some (.fence r)) :=
  ⟨accepts_idle ⟨rfl, rfl, rfl, rfl, rfl⟩ (by decide), rfl, rfl, by decide, by simp, by simp [queued]⟩

theorem witness_Abort :
    Accepts Kind.accessAbort 72 [22] (queued rd) ∧ (queued rd).xfer.queue = [] ++ .transfer rd :: [] ∧ rd.req.seq = 22 ∧
    rd.state ≠ .issuing ∧ { rd with state := .issuing }.state = .issuing ∧ ((queued rd).window rd.window).state = .enabled ∧
    (∀ e ∈ (queued rd).xfer.queue, e.seq ≠ 23) ∧ (∀ r, ([] ++ [] : List QEntry).head? ≠ some (.fence r)) :=
  ⟨accepts_idle ⟨rfl, rfl, rfl, rfl, rfl⟩ (by decide), rfl, rfl, by decide, rfl, by decide +kernel, by decide +kernel, by simp⟩

/-- A read at the head, through a window that drains, and a fence behind it. -/
def fenced : State :=
  { queued rd with
    windows := (closing 1).windows
    xfer := { queue := [.transfer rd, .fence (rq 60 Kind.accessFence)], postedFailures := 2 } }

theorem witness_Abort_fence :
    Accepts Kind.accessAbort 72 [60] fenced ∧
    fenced.xfer.queue = [.transfer rd] ++ .fence (rq 60 Kind.accessFence) :: [] ∧ (∀ e ∈ [QEntry.transfer rd], e.seq ≠ 60) ∧
    (∀ r, ([QEntry.transfer rd] ++ []).head? ≠ some (.fence r)) ∧ (fenced.window rd.window).state = .closing ∧
    (fenced.window rd.window).useCount = 1 ∧ (fenced.window rd.window).clearReply = some (rq 24 Kind.windowClear) ∧
    fenced.xfer.queue = [] ++ .transfer rd :: [.fence (rq 60 Kind.accessFence)] ∧
    (∀ r, ([] : List QEntry).head? ≠ some (.fence r)) :=
  ⟨accepts_idle ⟨rfl, rfl, rfl, rfl, rfl⟩ (by decide), rfl, by decide, by simp, by decide +kernel, by decide +kernel,
    by decide +kernel, rfl, by simp⟩

/-- R15, R55: the abort of the last transfer through a draining window: ABORTED, the abort's OK, the WINDOW_CLEAR's OK. -/
theorem test_abort_drains :
    after (exec (.accessAbort 72 [22]) { fenced with xfer := { queue := [.transfer rd] } })
      (fun s => (s.link.replies.map (fun r => (r.seq, r.status)), (s.window 2).state)) =
      some ([(22, .aborted), (72, .ok), (24, .ok)], .disabled) := by decide +kernel

/-- A locked pair whose second half waits to be sent again, through page entry 5. -/
def pairWaits : Pair :=
  { slot := 4, addr := 0x1000, compare := 7, new := 8, entry := some 5, old := some 7, stage := .resend 100, retries := 1 }

theorem witness_DelaysEnd :
    (queued { rd with state := .paused 100 }).xfer.queue = .transfer { rd with state := .paused 100 } :: [] ∧
    pairWaits.stage = .resend 100 ∧ pairWaits.old = some pairWaits.compare ∧
    { pairWaits with old := some 0 }.old ≠ some pairWaits.compare ∧ active.resetLine 4 = false ∧
    active.present 4 = true ∧ ((State.reset.setPage 5 { valid := true }).page 5).valid = true ∧
    (active.page 5).valid = false ∧ (∀ i, ({ pairWaits with entry := none } : Pair).entry ≠ some i) ∧
    (slotIn .resetting none).resetLine 4 = true ∧ active.present 5 = false :=
  ⟨rfl, rfl, rfl, by decide, by decide +kernel, by decide +kernel, by decide +kernel, by decide +kernel, by simp,
    by decide +kernel, by decide +kernel⟩

theorem witness_TransferGrant :
    grantDue .transfer (granting rd) = true ∧ (granting rd).xfer.queue = .transfer rd :: [] ∧
    translate (granting rd) ((granting rd).window 2) (rd.start + BitVec.ofNat 32 rd.completed) rd.kind.isWrite =
      .to 4 0x312340 none ∧
    ((granting rd).slot 4).state.inService = true ∧ (granting rd).present 4 = true ∧ rd.posted = false ∧
    rd.aborts = [] ∧ ((granting rd).window 2).state = .enabled ∧
    (({ granting rd with sup := {} } : State).slot 4).state.inService = false := by decide +kernel
theorem witness_TransferGrant_failures :
    rd.completed < rd.length ∧ grantDue .transfer (granting posted) = true ∧ posted.posted = true ∧ posted.aborts = [] ∧
    translate { granting posted with windows := (Vector.replicate 8 {}).set 2 { win with kind := .paged } }
      { win with kind := .paged } 0x40012340 true = .pageFault ∧
    translate ((granting posted).setPage 18 { valid := true, access := .readOnly }) { win with kind := .paged } 0x40012340
      true = .readOnly 0 0x340 := by decide +kernel
theorem witness_TransferGrant_kinds :
    rd.kind = .read ∧ posted.kind = .write [1] ∧
    ({ rd with kind := .swap 1 2, length := 4 } : Transfer).kind = .swap 1 2 := by decide

theorem witness_TransferResults_segments :
    (queued rd).xfer.queue = .transfer rd :: [] ∧ rd.completed + rd.segmentLength < rd.length ∧
    ({ rd with completed := 64 } : Transfer).completed + ({ rd with completed := 64 } : Transfer).segmentLength = 128 ∧
    rd.retries < (queued rd).params.retryLimit ∧ (queued rd).params.retryLimit ≤ ({ rd with retries := 8 } : Transfer).retries ∧
    ((queued rd).window rd.window).state = .enabled ∧ posted.posted = true := by decide +kernel
theorem witness_TransferResults_aborted :
    ({ rd with aborts := [rq 72 Kind.accessAbort] } : Transfer).aborts ≠ [] ∧ rd.completed ≠ rd.length ∧
    ({ rd with completed := 128 } : Transfer).completed = rd.length ∧ 1 ≤ rd.length ∧
    (∀ r, ([] : List QEntry).head? ≠ some (.fence r)) := ⟨by decide, by decide, rfl, by decide, by simp⟩

/-- R55: a marked head whose segment is ACKed counts it, and answers ABORTED and then the abort. -/
theorem test_marked_head :
    (segmentResult { rd with issued := 64, state := .issuing, aborts := [rq 72 Kind.accessAbort] } (4, 0x312340) .ack
      (List.replicate 64 1) (queued rd)).link.replies.map (fun r => (r.seq, r.status, r.body.take 6)) =
      [(22, .aborted, [64, 0, 0x80, 0x23, 0x01, 0x40]), (72, .ok, [64, 0])] := by decide +kernel

/-- A swap at the head with its pair under way. -/
def swapping (p : Pair) : State :=
  { queued { rd with kind := .swap 7 8, length := 4, state := .issuing } with
    arb := { holder := some .transfer }
    xfer := { queue := [.transfer { rd with kind := .swap 7 8, length := 4, state := .issuing }], pair := some p } }

theorem witness_LockedPair :
    (swapping pairWaits).link.resetTaken = false ∧ ((swapping pairWaits).window rd.window).state = .enabled ∧
    ({ pairWaits with stage := .lockRead, old := none } : Pair).stage = .lockRead ∧
    ({ pairWaits with stage := .second } : Pair).stage = .second ∧ (swapping pairWaits).resetLine pairWaits.slot = false ∧
    (swapping pairWaits).present pairWaits.slot = true ∧ le32 7 0 0 0 = pairWaits.compare ∧
    le32 9 0 0 0 ≠ pairWaits.compare ∧ pairWaits.entry = some 5 ∧ pairWaits.retries < (swapping pairWaits).params.retryLimit ∧
    (swapping pairWaits).params.retryLimit ≤ ({ pairWaits with retries := 8 } : Pair).retries ∧
    ({ State.reset with link := { resetTaken := true } } : State).xfer.queue = [] := by decide +kernel
theorem witness_LockedPair_swap :
    (∃ a b, ({ rd with kind := .swap 7 8, length := 4 } : Transfer).kind = .swap a b) ∧
    (swapping pairWaits).xfer.queue = .transfer { rd with kind := .swap 7 8, length := 4, state := .issuing } :: [] :=
  ⟨⟨7, 8, rfl⟩, rfl⟩

/-- R58: the word read is the compare value, so the second half is an UNLOCK_WRITE of the new one. -/
theorem test_swap_second_half :
    ((pairResult { pairWaits with stage := .lockRead, old := none } .ack [7, 0, 0, 0] (swapping pairWaits)).ctrl.tx.map
      fun t => (t.command, t.addr, t.writeData)) = some (.unlockWrite, 0x1000, [8, 0, 0, 0]) := by decide +kernel

/-- R59, R65: sent again to a slot that has lost its presence, the second half is ABSENT at its start and the swap ends
SLOT_DOWN with the lock's state known. -/
theorem test_swap_resend_absent :
    after (exec .swapResendDelayExpiry (swapping { pairWaits with slot := 5 }))
      (fun s => (lastReply s, s.ctrl.tx.isNone, s.xfer.queue.length)) =
      some (some (22, .slotDown, [3, 7, 0, 0, 0]), true, 0) := by decide +kernel

theorem witness_ArbiterChoice :
    State.reset.arb.holder = none ∧ State.reset.arb.choice = none ∧ (wanted (queued rd)).transfer = true ∧
    (wanted (queued rd)).hold = false ∧ (wanted (queued rd)).supervise = false ∧ (wanted (queued rd)).inbound = false ∧
    (wanted { calling with arb := { turn := 4 } }).inbound = true ∧ calling.params.inboundTurn ≤ 4 ∧
    held.arb.holder ≠ none ∧ (granting rd).arb.choice = some .transfer ∧ (wanted (granting rd)).has .transfer = true ∧
    calling.arb.waiting.inbound = true ∧ (wanted active).inbound = false := by decide +kernel

/-- A READ of four bytes of slot 4 for a requester, in a phase. -/
def tx (r : Requester) (c : Command) (p : Phase) : Tx :=
  { requester := r, command := c, slot := 4, addr := 0x1000, count := 4, phase := p, timer := some 200 }

/-- Slot 4 ACTIVE and the backplane carrying a transaction. -/
def running (t : Tx) : State := { active with arb := { holder := some t.requester }, ctrl := { tx := some t } }

theorem witness_TransactionStartAndEnd :
    active.resetLine 4 = false ∧ active.present 4 = true ∧ (tx .transfer .write .request).command.carriesData = true ∧
    (tx .transfer .read .request).command.carriesData = false ∧ active.present 5 = false ∧
    active.link.resetTaken = false ∧ (queued rd).xfer.pair = none ∧ (queued rd).xfer.queue = .transfer rd :: [] ∧
    ({ swapping pairWaits with link := { resetTaken := true } } : State).xfer.pair = some pairWaits := by
  decide +kernel

theorem witness_RequestAndResponse :
    1 ≤ (tx .transfer .write .request).count ∧ (running (tx .transfer .write .request)).ctrl.tx =
      some (tx .transfer .write .request) ∧ (tx .transfer .write .request).phase = .request ∧
    (tx .transfer .read .wait).phase = .wait ∧ (tx .transfer .read .wait).command.returnsData = true ∧
    (tx .transfer .write .wait).command.returnsData = false ∧ (tx .transfer .read .data).phase ≠ .wait := by decide +kernel

theorem witness_ReadDataAndTimeout :
    (running (tx .transfer .read .data)).ctrl.tx = some (tx .transfer .read .data) ∧
    (tx .transfer .read .data).phase = .data ∧ (tx .transfer .read .data).timer.isSome = true ∧
    (tx .transfer .read .data).wordCount ≤ (tx .transfer .read .data).words + 1 ∧
    ({ tx .transfer .read .data with count := 8 } : Tx).words + 1 < ({ tx .transfer .read .data with count := 8 } : Tx).wordCount ∧
    (oddOnes ((0x00000001 : Word).extractLsb' 0 8) ^^ (1 : BitVec 4).getLsbD 0) = false ∧
    (oddOnes ((0x00000001 : Word).extractLsb' 0 8) ^^ (0 : BitVec 4).getLsbD 0) = true ∧ State.reset.ctrl.tx = none := by
  decide +kernel

theorem witness_SlotGetAndOn :
    Accepts Kind.slotGet 1 [15] State.reset ∧ Accepts Kind.slotOn 2 [4] (slotIn .off none) ∧
    (15 : SlotId).val = (15 : Byte).toNat ∧ 15 < (16 : Byte).toNat ∧ ((slotIn .off none).slot 4).state = .off ∧
    (State.reset.slot 4).state ≠ .off :=
  ⟨accepts_idle ⟨rfl, rfl, rfl, rfl, rfl⟩ (by decide), accepts_idle ⟨rfl, rfl, rfl, rfl, rfl⟩ (by decide), by decide +kernel⟩

/-- An ENROLLING slot 4 that owes a SLOT_ENROLL reply of sequence 90. -/
def owing : State :=
  (timed .enrolling .gap).modifySlot 4 fun r => { r with enrollReply := some (rq 90 Kind.slotEnroll), attempts := 3 }

theorem witness_SlotEnroll_owed :
    (owing.slot 4).enrollReply = some (rq 90 Kind.slotEnroll) ∧ (rq 90 Kind.slotEnroll).session = owing.link.session := by
  decide +kernel
theorem witness_SlotEnroll :
    Accepts Kind.slotEnroll 1 [4] (slotIn .present none) ∧ (4 : SlotId).val = (4 : Byte).toNat ∧
    ((slotIn .present none).slot 4).state = .present ∧ (active.slot 4).state ≠ .present :=
  ⟨accepts_idle ⟨rfl, rfl, rfl, rfl, rfl⟩ (by decide), by decide +kernel⟩

/-- A hold's READ of slot 4 on the backplane while the slot owes a SLOT_ENROLL reply. -/
def owingRuns : State :=
  { owing with arb := { holder := some .hold }, hold := { state := .held, cycle := some cyc }
               ctrl := { tx := some cyc.tx } }

theorem witness_SlotResetAndOff_busy :
    Accepts Kind.slotReset 1 [4] owingRuns ∧ owingRuns.ctrl.tx = some cyc.tx ∧ cyc.tx.slot = 4 ∧
    (owingRuns.slot 4).state ≠ .off ∧ (swapping pairWaits).ctrl.tx = none ∧
    (swapping pairWaits).xfer.pair = some pairWaits ∧ pairWaits.slot = 4 :=
  ⟨accepts_idle ⟨rfl, rfl, rfl, rfl, rfl⟩ (by decide), by decide +kernel⟩

/-- R104, R70: the cycle's ABSENT reply, the owed SLOT_ENROLL's SLOT_DOWN in RESETTING, the OK. -/
theorem test_slot_reset_busy :
    after (exec (.slotReset 1 [4]) owingRuns) (fun s => (s.link.replies.map (fun r => (r.seq, r.status, r.body)), s.ctrl.tx)) =
      some ([(81, .ok, [6]), (90, .slotDown, [8, 0xFF]), (1, .ok, [])], none) := by decide +kernel

/-- R59: a pair that waits ends SLOT_DOWN with its old value when the module goes. -/
theorem test_presence_ends_pair :
    after (exec (.presenceInactive 4) (swapping pairWaits))
      (fun s => (lastReply s, s.xfer.pair, s.arb.holder, (s.slot 4).state)) =
      some (some (22, .slotDown, [3, 7, 0, 0, 0]), none, none, .empty) := by decide +kernel

theorem witness_SlotResetAndOff :
    Accepts Kind.slotReset 1 [4] active ∧ Accepts Kind.slotOff 1 [4] active ∧ (active.slot 4).state ≠ .empty ∧
    (active.slot 4).state ≠ .off ∧ active.ctrl.tx = none ∧ active.xfer.pair = none ∧
    ((slotIn .off none).slot 4).state = .off ∧ (State.reset.slot 4).state = .empty :=
  ⟨accepts_idle ⟨rfl, rfl, rfl, rfl, rfl⟩ (by decide), accepts_idle ⟨rfl, rfl, rfl, rfl, rfl⟩ (by decide), by decide +kernel⟩

theorem witness_SlotTimers :
    ((timed .settling .settle).slot 4).state = .settling ∧
    ((timed .settling .settle).slot 4).timer = some { kind := .settle, ms := 20 } ∧
    (timed .settling .settle).params.autoEnroll = true ∧
    ((timed .enrolling .gap).slot 4).timer = some { kind := .gap, ms := 20 } ∧
    ((timed .resetting .pulse).slot 4).timer = some { kind := .pulse, ms := 20 } ∧
    ((slotIn .present none).slot 4).timer = none := by decide +kernel
theorem witness_SlotTimers_check :
    (active.slot 4).state.inService = true ∧ (active.slot 4).timer = some { kind := .check, ms := 100 } ∧
    held.hold.state = .held ∧ (held.slot 4).skip < held.params.skipAllowance ∧ active.hold.state ≠ .held ∧
    ({ slot := 4, read := .check } : WorkItem) ∉ active.sup.work ∧ active.ctrl.tx = none ∧
    (running (tx .supervise .read .data)).ctrl.tx = some (tx .supervise .read .data) ∧
    ((running (tx .supervise .read .data)).slot 4).step = .none := by decide +kernel

/-- Slot 4 in a state under a hold, its skip count at SKIP_ALLOWANCE. -/
def skipped (st : SlotState) (lag : Nat) : State :=
  { slotIn st (some { kind := .check, ms := 100 }) with hold := { state := .held } }.modifySlot 4
    fun r => { r with skip := 2, lag := lag }

theorem witness_SlotTimers_skip :
    (skipped .active 0).params.skipAllowance ≤ ((skipped .active 0).slot 4).skip ∧
    ((skipped .active 0).slot 4).state = .active ∧ 1 < (skipped .active 0).params.lagLimit ∧
    ((skipped .lagging 1).slot 4).state = .lagging ∧
    ((skipped .lagging 1).slot 4).lag + 1 < (skipped .lagging 1).params.lagLimit ∧
    (skipped .lagging 2).params.lagLimit ≤ ((skipped .lagging 2).slot 4).lag + 1 ∧ ({ lagLimit := 1 } : Params).lagLimit ≤ 1 := by
  decide +kernel

/-- Chapter 5, the last paragraph: a third skip in a row is a failed check, the lag count 2 and the skip count 0. -/
theorem test_third_skip :
    after (exec (.checkTimerExpiry 4) (skipped .lagging 1)) (fun s => ((s.slot 4).state, (s.slot 4).lag, (s.slot 4).skip)) =
      some (.lagging, 2, 0) := by decide +kernel

theorem witness_PresenceLines :
    active.present 4 = true ∧ active.present 5 = false ∧ (active.slot 5).state = .empty ∧ (active.slot 4).state ≠ .empty ∧
    active.ctrl.tx = none ∧ active.xfer.pair = none ∧ ((timed .settling .settle).slot 4).state = .settling ∧
    ((slotIn .off none).slot 4).state = .off ∧
    (active.slot 4).state ∈ [SlotState.present, .enrolling, .active, .lagging, .faulted] ∧
    (owing.slot 4).enrollReply = some (rq 90 Kind.slotEnroll) ∧ owingRuns.ctrl.tx = some cyc.tx ∧
    (swapping pairWaits).xfer.pair = some pairWaits := by decide +kernel

/-- Slot 4 LAGGING with a lag count and a silence count. -/
def lagging (lag silence : Nat) : State :=
  active.modifySlot 4 fun r => { r with state := .lagging, lag := lag, silence := silence }

theorem witness_SupervisorJudges :
    ((lagging 1 2).slot 4).state.inService = true ∧
    min (((lagging 1 2).slot 4).silence + 1) 15 < (lagging 1 2).params.silenceLimit ∧
    (lagging 1 3).params.silenceLimit ≤ min (((lagging 1 3).slot 4).silence + 1) 15 ∧
    ((lagging 1 2).slot 4).step = .none ∧ readWord [1, 0, 0, 0] ≠ ((lagging 1 2).slot 4).heartbeat ∧
    readWord [0, 0, 0, 0] = ((lagging 1 2).slot 4).heartbeat ∧
    ((lagging 1 2).slot 4).lag + 1 < (lagging 1 2).params.lagLimit ∧
    (lagging 2 2).params.lagLimit ≤ ((lagging 2 2).slot 4).lag + 1 ∧ 1 < active.params.lagLimit := by decide +kernel

/-- The SUPERVISE grant is due, with one item on the work list. -/
def supervising (read : WorkRead) : State :=
  { active with arb := { waiting := { supervise := true }, choice := some .supervise }
                sup := { active.sup with work := [{ slot := 4, read := read }] } }

theorem witness_SuperviseGrant :
    grantDue .supervise (supervising .check) = true ∧
    (supervising .check).sup.work = { slot := 4, read := .check } :: [] ∧
    ((supervising .check).slot 4).descriptor = some dsc ∧ (supervising .check).resetLine 4 = false ∧
    (supervising .check).present 4 = true ∧
    ({ supervising .check with sup := active.sup } : State).sup.work = [] ∧
    grantDue .supervise ({ supervising .check with sup := active.sup } : State) = true := by decide +kernel

theorem witness_Enrollment :
    (descriptorBytes64 0x9E).length = 64 ∧ byteAt (descriptorBytes64 0x9E) 0 = 0x52 ∧
    ((descriptorBytes64 0x9E).map BitVec.toNat).sum % 256 = 0 ∧ descriptorOf (descriptorBytes64 0x9E) = dsc ∧
    ((descriptorBytes64 0).map BitVec.toNat).sum % 256 ≠ 0 ∧ ((timed .enrolling .gap).slot 4).state = .enrolling ∧
    ((timed .enrolling .gap).slot 4).attempts < (timed .enrolling .gap).params.enrollAttempts ∧
    (owing.slot 4).state = .enrolling ∧ owing.params.enrollAttempts ≤ (owing.slot 4).attempts ∧
    (match validateDescriptor (descriptorBytes64 0) with | .ok _ => none | .error c => some c) =
      some .enrollBadChecksum := by decide +kernel

/-- R95, R103: a bad descriptor at the third of three attempts faults the slot with its cause and answers SLOT_DOWN. -/
theorem test_last_attempt :
    (fun s : State => ((s.slot 4).state, (s.slot 4).faultCause, (lastReply s).map fun x => x.2.2, s.faults.entries.length))
      (superviseResult 4 .ack (descriptorBytes64 0) (owing.modifySlot 4 fun r => { r with step := .descriptorRead })) =
      (.faulted, some .enrollBadChecksum, some [7, SlotCause.enrollBadChecksum.code], 1) := by decide +kernel

theorem witness_HoldAcquire :
    Accepts Kind.holdAcquire 80 [0xF4, 0x01] active ∧ parseLimit [0xF4, 0x01] = some 500 ∧
    500 ≤ active.params.holdLimit ∧ active.hold.state = .idle ∧ held.hold.state ≠ .idle ∧
    parseLimit [0, 0] = some 0 ∧ active.params.holdLimit < 501 :=
  ⟨accepts_idle ⟨rfl, rfl, rfl, rfl, rfl⟩ (by decide), by decide +kernel⟩

/-- The HOLD grant is due. -/
def acquiring : State :=
  { active with arb := { waiting := { hold := true }, choice := some .hold }
                hold := { state := .pending, acquire := some (rq 80 Kind.holdAcquire), limit := some 300 } }

theorem witness_HoldGrant :
    grantDue .hold acquiring = true ∧ acquiring.hold.acquire = some (rq 80 Kind.holdAcquire) ∧
    acquiring.hold.limit = some 300 ∧ acquiring.sup.work = [] ∧
    (acquiring.slot 4).skip < acquiring.params.skipAllowance ∧ (acquiring.slot 5).skip < acquiring.params.skipAllowance ∧
    grantDue .hold { acquiring with sup := { acquiring.sup with
      work := [{ slot := 4, read := .check }, { slot := 5, read := .check }] } } = true := by
  decide +kernel

theorem witness_HoldCycle :
    Accepts Kind.holdCycle 81 ([4, 0, 0x3C, 0, 0, 4] ++ []) held ∧ Command.ofCode 0 = some .read ∧
    (le24 0x3C 0 0).toNat % 64 + (4 : Byte).toNat = 64 ∧ held.hold.state = .held ∧ held.hold.endCause = none ∧
    held.hold.cycle = none ∧ held.hold.cycles = [] ∧ held.resetLine 4 = false ∧ held.present 4 = true ∧
    held.ctrl.tx = none ∧ held.present 5 = false ∧ active.hold.state ≠ .held ∧ Command.ofCode 5 = none ∧
    ([1] : List Byte) ≠ [] ∧
    64 < (le24 0x3D 0 0).toNat % 64 + (4 : Byte).toNat ∧ (4 : SlotId).val = (4 : Byte).toNat ∧
    Command.ofCode 1 = some .write ∧ Accepts Kind.holdCycle 81 [4, 0, 0, 0, 0] held ∧
    ([4, 0, 0, 0, 0] : List Byte).length < 6 := by
  have e : Accepts Kind.holdCycle 81 ([4, 0, 0x3C, 0, 0, 4] ++ []) held ∧ Accepts Kind.holdCycle 81 [4, 0, 0, 0, 0] held :=
    ⟨accepts_idle ⟨rfl, rfl, rfl, rfl, rfl⟩ (by decide), accepts_idle ⟨rfl, rfl, rfl, rfl, rfl⟩ (by decide)⟩
  simp only [e.1, e.2, true_and]
  decide +kernel

/-- R188: data under a command code that names none do not fit; without data the code is out of range. -/
theorem test_hold_cycle_unnamed :
    after (exec (.holdCycle 81 [4, 5, 0, 0, 0, 4, 1]) held) lastReply = some (some (81, .malformed, [])) ∧
    after (exec (.holdCycle 81 [4, 5, 0, 0, 0, 4]) held) lastReply = some (some (81, .range, [])) := by decide +kernel

/-- A hold with a cycle in progress, perhaps ending. -/
def cycling (cause : Option EndCause) (more : List Cycle) : State :=
  { held with hold := { held.hold with cycle := some cyc, cycles := more, endCause := cause } }

theorem witness_HoldEnding :
    (cycling none []).hold.cycle = some cyc ∧ (cycling none []).hold.endCause = none ∧
    (cycling none [cyc]).hold.cycles = cyc :: [] ∧ (cycling none [cyc]).resetLine cyc.slot = false ∧
    (cycling none [cyc]).present cyc.slot = true ∧ (cycling (some .release) []).hold.endCause ≠ none ∧
    (cycling (some .release) []).hold.state = .held ∧ (cycling none [{ cyc with slot := 5 }]).present 5 = false := by
  decide +kernel

/-- R65, R118: of two queued cycles the first, to a slot without presence, is answered ABSENT, and the second starts. -/
theorem test_next_cycles :
    (fun s : State => (s.link.replies.map (fun r => r.body), s.hold.cycles, s.ctrl.tx.map fun t => (t.slot, t.phase)))
      (cycleResult .retry [] (cycling none [{ cyc with slot := 5 }, cyc])) = ([[1], [6]], [], some (4, .wait)) := by
  decide +kernel

theorem witness_HoldRelease :
    Accepts Kind.holdRelease 83 [] held ∧ Accepts Kind.holdRelease 83 [] acquiring ∧ acquiring.hold.state = .pending ∧
    (rq 80 Kind.holdAcquire).session = acquiring.link.session ∧ (cycling none []).hold.cycle ≠ none ∧
    held.hold.endCause = none ∧ active.hold.state = .idle :=
  ⟨accepts_idle ⟨rfl, rfl, rfl, rfl, rfl⟩ (by decide), accepts_idle ⟨rfl, rfl, rfl, rfl, rfl⟩ (by decide), by decide +kernel⟩

theorem witness_LimitTimerExpiry :
    held.hold.state = .held ∧ held.hold.limitTimer.isSome = true ∧ held.hold.cycle = none ∧
    (cycling none []).hold.cycle ≠ none ∧ active.hold.limitTimer = none ∧ held.link.resetTaken = false ∧
    ({ held.hold with endCause := some .release } : Hold).endCause ≠ none := by decide +kernel

theorem witness_CreditAndMask :
    Accepts Kind.postCredit 5 [64] State.reset ∧ (64 : Byte).toNat ≤ 64 ∧ 64 < (65 : Byte).toNat ∧
    Accepts Kind.attentionMask 6 [1, 0x80, 1, 0] State.reset ∧ parseAttentionMask [1, 0x80, 1, 0] = some (0x8001, 1) :=
  ⟨accepts_idle ⟨rfl, rfl, rfl, rfl, rfl⟩ (by decide), by decide, by decide, accepts_idle ⟨rfl, rfl, rfl, rfl, rfl⟩ (by decide), by decide⟩

/-- Slot 4's back-off timer runs. -/
def backingOff : State := { calling with inb := { backOff := (Vector.replicate 16 none).set 4 (some 100) } }

theorem witness_AttentionAndBackOff :
    backingOff.inb.backOff[(4 : SlotId)] = some 100 ∧ calling.inb.backOff[(4 : SlotId)] = none ∧
    calling.link.resetTaken = false ∧ calling.arb.holder ≠ some .inbound ∧ eligible calling 4 = true := by decide +kernel

/-- The INBOUND grant is due for a service of slot 4. -/
def serving (step : ServiceStep) (epoch : Byte) : State :=
  { calling with inb := { service := some { svc step with epoch := epoch, length := 100 } } }

theorem witness_InboundGrant :
    grantDue .inbound calling = true ∧ calling.inb.service = none ∧ eligible calling 4 = true ∧
    (4 : SlotId) = calling.inb.pointer + 4 ∧
    (∀ j : Fin 16, j.val < (4 : Fin 16).val → eligible calling (calling.inb.pointer + j) = false) ∧
    (calling.slot 4).descriptor = some dsc ∧ calling.present 4 = true ∧
    grantDue .inbound { active with arb := calling.arb } = true ∧
    (∀ i, eligible { active with arb := calling.arb } i = false) := by decide +kernel
theorem witness_InboundGrant_service :
    grantDue .inbound (serving .body 0) = true ∧ ((serving .body 0).slot 4).state.inService = true ∧
    (serving .body 0).inb.service.map Service.epoch = some ((serving .body 0).slot 4).epoch ∧
    (serving .body 0).present 4 = true ∧
    grantDue .inbound (serving .header 0) = true ∧ (serving .header 0).inb.reserved = 0 ∧
    (serving .take 9).inb.service.map Service.epoch ≠ some ((serving .take 9).slot 4).epoch := by decide +kernel

theorem witness_InboundResults :
    (svc .header).step = .header ∧ ({ active with inb := { service := some (svc .header) } } : State).inb.service =
      some (svc .header) ∧ active.inb.reserved = 0 ∧
    ((active.slot 4).descriptor.map Descriptor.maxPost).getD 0 = 128 ∧
    active.inb.posts.length < 32 ∧ (active.inb.posts.map fun p => p.body.length).sum + 128 ≤ 8192 ∧
    (svc .body).body.length + [(1 : Byte)].length < ({ svc .body with length := 2 } : Service).length ∧
    (svc .take).step = .take ∧ (svc .discardTake).step = .discardTake ∧ (active.slot 4).state.inService = true ∧
    ((slotIn .off none).slot 4).state.inService = false := by decide +kernel

/-- R129, R137, R140, R142: a failed body read gives its reservation up, which ends a room wait that the room now
suffices for, to the last byte, and its slot backs off; a slot out of service backs off no more. -/
theorem test_reservation_released :
    let inb : Inbound := { service := some (svc .body), reserved := 100, roomWait := (Vector.replicate 16 none).set 5 (some 8192) }
    let good := (serviceResult (svc .body) .reject [] { active with inb := inb }).inb
    let gone := (serviceResult (svc .body) .reject [] { slotIn .faulted none with inb := inb }).inb
    good.reserved = 0 ∧ good.roomWait[5] = none ∧ good.backOff[4] = some 100 ∧ gone.backOff[4] = none := by decide +kernel

theorem witness_MakeRecord :
    State.reset.faults.entries.length < 32 ∧
    (List.replicate 32 ({ record := { kind := .slot, code := .badLength }, pending := true } : FaultEntry)) =
      { record := { kind := .slot, code := .badLength }, pending := true } ::
        List.replicate 31 { record := { kind := .slot, code := .badLength }, pending := true } ∧
    (List.replicate 31 ({ record := { kind := .slot, code := .badLength }, pending := true } : FaultEntry)).length = 31 :=
  ⟨by decide, rfl, rfl⟩

/-- The fault list of three records over the wrap keeps its law. -/
theorem threeFaults_law : ({ State.reset with faults := threeFaults } : State).FaultLaw :=
  { length := by decide
    numbers := fun k e h => by
      match k, h with
      | 0, h => cases h; decide
      | 1, h => cases h; decide
      | 2, h => cases h; decide
      | _ + 3, h => cases h
    given := by decide, masked := by decide +kernel, slots := by decide +kernel, holdEnd := by decide +kernel }

theorem witness_FaultRead :
    Accepts Kind.faultRead 8 [0, 0, 0, 0, 8] { State.reset with faults := threeFaults } ∧
    ({ State.reset with faults := threeFaults } : State).FaultLaw ∧
    parseFaultRead [0, 0, 0, 0, 8] = some (0, 8) ∧ (threeFaults.next - 1 - 0).toNat = 1 ∧
    2 ^ 31 ≤ (threeFaults.next - 1 - 2).toNat ∧ threeFaults.given = true :=
  ⟨accepts_idle ⟨rfl, rfl, rfl, rfl, rfl⟩ (by decide), threeFaults_law, by decide, by decide, by decide, rfl⟩

theorem witness_FaultClear :
    Accepts Kind.faultClear 7 [1, 0, 0, 0] { State.reset with faults := threeFaults } ∧
    ({ State.reset with faults := threeFaults } : State).FaultLaw ∧ parseFaultClear [1, 0, 0, 0] = some 1 ∧
    (threeFaults.next - 1 - 1).toNat = 0 ∧ State.reset.faults.given = false :=
  ⟨accepts_idle ⟨rfl, rfl, rfl, rfl, rfl⟩ (by decide), threeFaults_law, by decide, by decide, rfl⟩

theorem witness_NoticeMask :
    Accepts Kind.noticeMask 9 [7, 7] State.reset ∧ (7 : Byte).toNat < 8 ∧ 8 ≤ (8 : Byte).toNat :=
  ⟨accepts_idle ⟨rfl, rfl, rfl, rfl, rfl⟩ (by decide), by decide⟩

theorem witness_EchoAndConfigGet :
    Accepts Kind.echo 2 [4, 5] State.reset ∧ Accepts Kind.configGet 3 [] State.reset ∧
    Accepts Kind.echo 2 (List.replicate 4097 0) State.reset ∧ 4096 < (List.replicate 4097 (0 : Byte)).length :=
  ⟨accepts_idle ⟨rfl, rfl, rfl, rfl, rfl⟩ (by decide), accepts_idle ⟨rfl, rfl, rfl, rfl, rfl⟩ (by decide),
    accepts_idle ⟨rfl, rfl, rfl, rfl, rfl⟩ (by rw [List.length_replicate]; decide), by rw [List.length_replicate]; decide⟩

theorem witness_ConfigSet :
    Accepts Kind.configSet 4 [8, 10, 0] State.reset ∧
    [(8 : Byte), 10, 0] = [((8 : Byte), (10 : BitVec 16))].flatMap (fun x => x.1 :: bytes16 x.2) ∧
    ParamId.checkInterval.code = 8 ∧ ParamId.checkInterval.inRange (10 : BitVec 16).toNat = true ∧
    ParamId.checkInterval.inRange (9 : BitVec 16).toNat = false ∧ ([(8 : Byte)]).Nodup ∧ ¬([(8 : Byte), 8]).Nodup ∧
    State.reset.params.checkInterval ≠ 0 ∧ ({ checkInterval := 0 } : Params).checkInterval = 0 :=
  ⟨accepts_idle ⟨rfl, rfl, rfl, rfl, rfl⟩ (by decide), by decide +kernel⟩

theorem witness_OutputOrder :
    State.reset.link.transmitter = none ∧ State.reset.link.phase = .opened ∧ State.reset.link.replies = [] ∧
    State.reset.link.overload = none ∧ State.reset.link.linkUp = some .powerOn ∧
    State.reset.notices.slotPending[(0 : SlotId)] = true ∧ State.reset.notices.holdEnd = none ∧
    State.reset.inb.credits = 0 := by decide +kernel

/-- The reply of a BRIDGE_RESET, and of an ECHO, of sequence 9. -/
def sent (kind : Byte) : Reply := { seq := 9, kind := kind, crc := 0, status := .ok, body := [], resend := false }

/-- The transmit line carries a reply to its last byte. -/
def sending (kind : Byte) : State :=
  { active with link := { transmitter := some ((sent kind).frame, .reply (sent kind)), unreplied := [rq 9 kind] } }

/-- The transmit line carries a POST, and a LINK_UP. -/
def sendingPost : State :=
  { State.reset with
    inb := { posts := [{ number := 0, slot := 4, epoch := 1, channel := 0, tag := 0, body := [], stamp := 0 }] }
    link := { transmitter := some ({ cls := .notice, kind := Kind.post, seq := 0, payload := [] }, .post) } }
def noticing : State :=
  { State.reset with
    link := { transmitter := some ({ cls := .notice, kind := Kind.linkUp, seq := 0, payload := [] }, .linkUp .powerOn) } }

theorem witness_FrameSent :
    State.reset.link.transmitter = none ∧
    (sending Kind.echo).link.transmitter = some ((sent Kind.echo).frame, .reply (sent Kind.echo)) ∧
    ¬((sent Kind.echo).kind = Kind.bridgeReset ∧ (sent Kind.echo).status = .ok) ∧ (sent Kind.echo).resend = false := by
  decide +kernel
theorem witness_FrameSent_notices :
    (sendingPost.link.transmitter.map Prod.snd) = some .post ∧ sendingPost.inb.posts.length = 1 ∧
    (noticing.link.transmitter.map Prod.snd) = some (.linkUp .powerOn) := by decide +kernel

theorem witness_BridgeReset :
    (sending Kind.bridgeReset).link.transmitter =
      some ((sent Kind.bridgeReset).frame, .reply (sent Kind.bridgeReset)) ∧
    (sent Kind.bridgeReset).kind = Kind.bridgeReset ∧ (sending Kind.bridgeReset).link.phase = .opened ∧
    ({ active.link with resetTaken := true } : Link).resetTaken = true ∧ active.ctrl.tx = none ∧
    active.xfer.pair = none ∧ (active.slot 4).state ≠ .off ∧ ((slotIn .off none).slot 4).state = .off := by decide +kernel

theorem witness_Breaks :
    active.link.phase ≠ .brk ∧ active.link.replies = [] ∧ active.link.transmitter = none ∧ active.hold.state = .idle ∧
    acquiring.hold.state = .pending ∧ held.hold.state = .held ∧ held.hold.cycle = none ∧
    (cycling none []).hold.state = .held ∧ (cycling none []).hold.cycle ≠ none ∧
    ({ active.link with phase := .brk } : Link).phase = .brk ∧ noticing.link.linkUp = some .powerOn ∧
    noticing.link.transmitter.map Prod.snd = some (.linkUp .powerOn) ∧
    ({ noticing.notices with faultEnabled := false, holdEnabled := false } : Notices).faultEnabled = false ∧
    (∃ f r, (sending Kind.bridgeReset).link.transmitter = some (f, .reply r) ∧ r.kind = Kind.bridgeReset ∧
      r.status = .ok ∧ r.resend = false) :=
  ⟨by decide, rfl, rfl, rfl, rfl, rfl, rfl, rfl, by decide, rfl, rfl, rfl, rfl, _, _, rfl, rfl, rfl, rfl⟩

/-- R112, R126, R131, R177: a break ends a HELD hold with no cycle in progress and reaches the link, the credits and the
notices with it. -/
theorem test_break_held :
    after (exec .breakBegin { held with inb := { credits := 5 }, notices := { slotPending := Vector.replicate 16 false } })
      (fun s => (s.hold.state, s.arb.holder.isNone, s.link.session, s.inb.credits, s.notices.slotPending[0])) =
      some (.idle, true, 1, 0, true) := by decide +kernel

/-- R177 step 6: a break that cuts off a BRIDGE_RESET's OK takes the reset: two sessions on, the windows as at reset. -/
theorem test_break_takes_reset :
    after (exec .breakBegin { sending Kind.bridgeReset with windows := (queued rd).windows })
      (fun s => (s.link.session, s.link.resetTaken, s.link.phase, (s.window 2).state)) =
      some (2, true, .brk, .disabled) := by decide +kernel

/-! The laws hold together in states with a transaction, a hold and a service under way, and a step leads on. -/

theorem witness_WindowLaw : (queued rd).WindowLaw ∧ ∃ t, step (queued rd) = .next t := ⟨queued_windowLaw, _, rfl⟩

theorem witness_PageLaw :
    (State.reset.setPage 5 { valid := true, referenced := true }).PageLaw ∧
    ∃ t, step (State.reset.setPage 5 { valid := true, referenced := true }) = .next t := by
  refine ⟨fun i h => ?_, _, rfl⟩
  by_cases hi : i = 5
  · subst hi
    rw [setPage_page_self _ _ (by decide)] at h
    exact absurd h (by decide)
  · have e : (State.reset.setPage 5 { valid := true, referenced := true }).page i = {} := by
      rw [setPage_page_of_ne _ _ (Ne.symm hi)]
      by_cases hl : i < 2048 <;> simp [State.page, State.reset, Vector.getD, hl]
    rw [e]
    exact ⟨rfl, rfl⟩

theorem witness_FaultAndCountLaws :
    ({ State.reset with faults := threeFaults } : State).FaultLaw ∧
    ({ State.reset with inb := { credits := 64 } } : State).CountLaw ∧
    ∃ t, step { State.reset with faults := threeFaults, pending := [.faultClear 7 [1, 0, 0, 0]] } = .next t :=
  ⟨threeFaults_law, ⟨by decide, fun p => by cases p <;> decide⟩, _, rfl⟩

theorem witness_LinkLaw : (unreplied 8).LinkLaw ∧ ∃ t, step (unreplied 8) = .next t :=
  ⟨⟨by decide, by decide +kernel, by decide, by decide, by decide, by decide, by decide, by decide, by decide⟩, _, rfl⟩

theorem witness_SlotLaw : active.SlotLaw ∧ ∃ t, step active = .next t := by
  have h4 : ∀ i : SlotId, i = 4 ∨ active.slot i = {} := by decide +kernel
  have e4 : active.slot 4 = { state := .active, descriptor := some dsc, timer := some { kind := .check, ms := 100 } } := by
    decide +kernel
  refine ⟨?_, _, rfl⟩
  constructor
  · decide +kernel
  · intro i t h
    rcases h4 i with rfl | e
    · rw [e4] at h ⊢; cases h; rfl
    · rw [e] at h; cases h
  · decide +kernel
  · decide +kernel
  · decide +kernel
  · intro i d h
    rcases h4 i with rfl | e
    · rw [e4] at h; cases h
    · rw [e] at h; cases h
  · intro i d h
    rcases h4 i with rfl | e
    · rw [e4] at h; cases h; decide
    · rw [e] at h; cases h
  · decide +kernel
  · decide +kernel
  · decide +kernel
  · decide +kernel

/-- A hold with its cycle's READ on the backplane. -/
def holdRuns : State := { cycling none [cyc] with ctrl := { tx := some (tx .hold .read .wait) } }

theorem witness_GrantAndHoldLaws :
    holdRuns.CountLaw ∧ holdRuns.GrantLaw ∧ holdRuns.HoldLaw ∧ ∃ t, step holdRuns = .next t := by
  refine ⟨⟨by decide +kernel, fun p => by cases p <;> decide +kernel⟩, ?_, ?_, _, rfl⟩
  · refine ⟨?_, by decide +kernel, by decide +kernel, ?_, by decide +kernel, ?_, fun h => absurd h (by decide +kernel), ?_,
      by decide +kernel, by decide +kernel, by decide +kernel, by decide +kernel⟩
    · intro t h; cases h; rfl
    · intro t h _; rfl
    · intro r h; cases h
    · intro r _; cases r <;> rfl
  · constructor <;> decide +kernel

/-- A body read of a service on the backplane with 100 bytes reserved. -/
def bodyRuns : State :=
  { running ({ svc .body with length := 100 } : Service).tx with
    inb := { reserved := 100, service := some { svc .body with length := 100 } } }

theorem witness_PostLaw : bodyRuns.GrantLaw ∧ bodyRuns.PostLaw ∧ ∃ t, step bodyRuns = .next t := by
  refine ⟨?_, ?_, _, rfl⟩
  · refine ⟨?_, by decide +kernel, by decide +kernel, ?_, by decide +kernel, ?_, fun h => absurd h (by decide +kernel), ?_,
      by decide +kernel, by decide +kernel, by decide +kernel, by decide +kernel⟩
    · intro t h; cases h; rfl
    · intro t h hr; cases h; cases hr
    · intro r h; cases h
    · intro r _; cases r <;> rfl
  · refine ⟨by decide +kernel, by decide +kernel, by decide +kernel, ?_, ?_⟩
    · intro v h
      cases h
      exact ⟨by decide, rfl, by decide⟩
    · intro t h _
      cases h
      exact ⟨_, rfl, rfl, rfl, rfl, by decide +kernel⟩
end Sys2Proof.Tests
end

/-! ## Windows: the rules

What a request of the table does, what its bytes stand for, and which addresses a window holds. Here and below the
proofs are elaborated one after another, as the tests are, which keeps the compile within the check's memory. -/

namespace Sys2Proof.Machine

set_option Elab.async false

/-! ### A request of the table goes to its owner (R168, R170) -/

theorem ownerOf_of_unknown {kind : Byte} (h : namesRequest kind = false) (payload : List Byte) :
    ownerOf kind payload = unknownKindOwner := by
  simp [namesRequest, Kind.requests] at h
  simp [ownerOf, h]

/-- A request's command is its frame on the receive line with the owner its kind code names; the one exception is an
UNKNOWN_KIND_REQUEST with a kind code of another request, which changes nothing. -/
theorem exec_request {c : Instr} {kind seq : Byte} {payload : List Byte}
    (hr : c.request = some (kind, seq, payload)) (s : State) :
    exec c s = .next (if c.kindGood then onRequest kind seq payload (ownerOf kind payload) s else s) := by
  cases c with
  | unknownKindRequest =>
    cases hr
    cases hk : namesRequest kind with
    | true => simp [exec, execUnknownKindRequest, Instr.kindGood, hk]
    | false => simp [exec, execUnknownKindRequest, Instr.kindGood, hk, ownerOf_of_unknown hk]
  | _ => cases hr <;> rfl

/-- An accepted request of the table goes to the owner its kind code names. -/
theorem exec_of_accepts {c : Instr} {kind seq : Byte} {payload : List Byte} {s : State}
    (hr : c.request = some (kind, seq, payload)) (hk : c.kindGood = true) (ha : Accepts kind seq payload s) :
    exec c s = .next (ownerOf kind payload (reqId kind seq payload s) (s.accepted kind seq payload)) := by
  rw [exec_request hr, if_pos hk, onRequest_of_accepts ha]

/-! ### Byte codes -/

theorem mem_windowIds (w : WindowId) : w ∈ windowIds := by
  revert w; decide

theorem parseByte_singleton (b : Byte) : parseByte [b] = some b := rfl

theorem parseByte_eq_none {p : List Byte} (h : p.length ≠ 1) : parseByte p = none := by
  match p with
  | [] => rfl
  | [_] => exact absurd rfl h
  | _ :: _ :: _ => rfl

theorem windowOfByte_eq_some {b : Byte} {w : WindowId} : windowOfByte b = some w ↔ w.val = b.toNat := by
  unfold windowOfByte
  split
  · rw [Option.some.injEq, eq_comm, Fin.ext_iff]
  · have := w.isLt
    simp only [reduceCtorEq, false_iff]
    omega

theorem windowOfByte_eq_none {b : Byte} : windowOfByte b = none ↔ 7 < b.toNat := by
  unfold windowOfByte
  split <;> simp <;> omega

theorem slotOfByte_eq_some {b : Byte} (h : b.toNat ≤ 15) : slotOfByte b = some (Fin.ofNat 16 b.toNat) := by
  unfold slotOfByte
  rw [dif_pos (by omega)]
  simp [Fin.ext_iff]
  omega

theorem slotOfByte_isSome {b : Byte} {i : SlotId} (h : slotOfByte b = some i) : b.toNat ≤ 15 := by
  unfold slotOfByte at h
  split at h
  · omega
  · cases h

/-- A byte of at most 1 is one of the two codes. -/
theorem byte_le_one {b : Byte} : b.toNat ≤ 1 ↔ b = 0 ∨ b = 1 := by
  constructor
  · intro h
    have : b.toNat = 0 ∨ b.toNat = 1 := by omega
    exact this.imp (fun e => BitVec.eq_of_toNat_eq e) (fun e => BitVec.eq_of_toNat_eq e)
  · rintro (rfl | rfl) <;> decide

/-! ### WINDOW_SET's fields (R11) -/

/-- The kind code stands for a window kind exactly when it is one of the two. -/
theorem WindowKind.ofCode_eq_some {b : Byte} {k : WindowKind} :
    WindowKind.ofCode b = some k ↔ b.toNat ≤ 1 ∧ k = if b = 0 then .direct else .paged := by
  rw [byte_le_one, WindowKind.ofCode]
  by_cases h0 : b = 0#8
  · simp [h0, eq_comm]
  · by_cases h1 : b = 1#8
    · simpa [h1] using eq_comm
    · simp [h0, h1]

theorem Access.ofCode_eq_some {b : Byte} {k : Access} :
    Access.ofCode b = some k ↔ b.toNat ≤ 1 ∧ k = if b = 0 then .readWrite else .readOnly := by
  rw [byte_le_one, Access.ofCode]
  by_cases h0 : b = 0#8
  · simp [h0, eq_comm]
  · by_cases h1 : b = 1#8
    · simpa [h1] using eq_comm
    · simp [h0, h1]

theorem WritePolicy.ofCode_eq_some {b : Byte} {k : WritePolicy} :
    WritePolicy.ofCode b = some k ↔ b.toNat ≤ 1 ∧ k = if b = 0 then .acknowledged else .posted := by
  rw [byte_le_one, WritePolicy.ofCode]
  by_cases h0 : b = 0#8
  · simp [h0, eq_comm]
  · by_cases h1 : b = 1#8
    · simpa [h1] using eq_comm
    · simp [h0, h1]

theorem WindowFields.record_of_good {f : WindowFields} (h : f.Good) {w : WindowId} (hw : w.val = f.index.toNat) :
    f.record = some (w, f.taken) := by
  have hk := WindowKind.ofCode_eq_some.mpr ⟨h.kind, rfl⟩
  have ha := Access.ofCode_eq_some.mpr ⟨h.access, rfl⟩
  have hp := WritePolicy.ofCode_eq_some.mpr ⟨h.policy, rfl⟩
  simp only [WindowFields.record, WindowFields.taken, windowOfByte_eq_some.mpr hw, hk, ha, hp]
  rw [if_pos ⟨h.size.1, h.size.2, h.base⟩]
  rcases byte_le_one.mp h.kind with hd | hd
  · simp [hd, slotOfByte_eq_some (h.direct hd).1, (h.direct hd).2]
  · simp [hd, h.paged hd]

theorem WindowFields.good_of_record {f : WindowFields} {x : WindowId × Window} (h : f.record = some x) :
    f.Good ∧ x.1.val = f.index.toNat := by
  unfold WindowFields.record at h
  dsimp only at h
  split at h
  · next w k a p hw hk ha hp =>
    rw [WindowKind.ofCode_eq_some] at hk
    rw [Access.ofCode_eq_some] at ha
    rw [WritePolicy.ofCode_eq_some] at hp
    rw [windowOfByte_eq_some] at hw
    have hi : f.index.toNat ≤ 7 := by omega
    split at h
    · next hs =>
      obtain ⟨hk1, rfl⟩ := hk
      split at h
      · next hd =>
        have hd : f.kind = 0 := by simpa using hd
        split at h
        · next sl hsl =>
          split at h
          · next hm =>
            cases h
            exact ⟨⟨hi, ⟨hs.1, hs.2.1⟩, hk1, ha.1, hp.1, hs.2.2, fun _ => ⟨slotOfByte_isSome hsl, hm⟩,
              fun h1 => by simp [hd] at h1⟩, hw⟩
          · cases h
        · cases h
      · next hd =>
        have hd : f.kind ≠ 0 := by simpa using hd
        split at h
        · next hm =>
          cases h
          exact ⟨⟨hi, ⟨hs.1, hs.2.1⟩, hk1, ha.1, hp.1, hs.2.2, fun h0 => absurd h0 hd, fun _ => hm⟩, hw⟩
        · cases h
    · cases h
  · cases h

/-- The record WINDOW_SET writes: there is one exactly when the fields pass the table of R11. -/
theorem WindowFields.record_eq_some {f : WindowFields} {w : WindowId} {r : Window} :
    f.record = some (w, r) ↔ f.Good ∧ w.val = f.index.toNat ∧ r = f.taken := by
  constructor
  · intro h
    obtain ⟨hg, hw⟩ := WindowFields.good_of_record h
    rw [WindowFields.record_of_good hg hw] at h
    cases h
    exact ⟨hg, hw, rfl⟩
  · rintro ⟨hg, hw, rfl⟩
    exact WindowFields.record_of_good hg hw

theorem WindowFields.record_eq_none {f : WindowFields} (h : ¬f.Good) : f.record = none := by
  cases hr : f.record with
  | none => rfl
  | some x => exact absurd (WindowFields.good_of_record hr).1 h

/-! ### Ranges (R4, R12) -/

theorem Window.meets_iff (a b : Window) : a.meets b = true ↔ a.SharesWith b := by
  have ha := Nat.two_pow_pos a.sizeLog2
  have hb := Nat.two_pow_pos b.sizeLog2
  simp only [Window.meets, Bool.and_eq_true, decide_eq_true_eq]
  unfold Window.limit Window.SharesWith
  constructor
  · rintro ⟨h1, h2⟩
    exact ⟨max a.base.toNat b.base.toNat, by omega⟩
  · rintro ⟨x, h1, h2, h3, h4⟩
    omega

theorem Window.meets_comm (a b : Window) : a.meets b = b.meets a := by
  simp [Window.meets, Bool.and_comm]

theorem overlapsOther_iff (s : State) (w : WindowId) (r : Window) :
    overlapsOther s w r = true ↔
      ∃ v, v ≠ w ∧ (s.window v).state ≠ .disabled ∧ r.SharesWith (s.window v) := by
  simp [overlapsOther, mem_windowIds, Window.meets_iff, and_assoc]

theorem Window.holds_iff (r : Window) (a : Word) :
    r.holds a = true ↔ r.state = .enabled ∧ r.base.toNat ≤ a.toNat ∧ a.toNat < r.limit := by
  simp [Window.holds, and_assoc]

theorem window_holds_of_hit {s : State} {a : Word} {w : WindowId} (h : hit s a = some w) :
    (s.window w).holds a = true := by
  simpa using List.find?_some h

theorem hit_isSome_of_holds {s : State} {a : Word} {w : WindowId} (h : (s.window w).holds a = true) :
    ∃ v, hit s a = some v := by
  rw [← Option.isSome_iff_exists, hit, List.find?_isSome]
  exact ⟨w, mem_windowIds w, h⟩

theorem State.WindowLaw.eq_of_holds {s : State} (h : s.WindowLaw) {a : Word} {v w : WindowId}
    (hv : (s.window v).holds a = true) (hw : (s.window w).holds a = true) : v = w := by
  rw [Window.holds_iff] at hv hw
  by_contra hne
  have hm := h.apart v w hne (by simp [hv.1]) (by simp [hw.1])
  rw [Bool.eq_false_iff, Ne, Window.meets_iff] at hm
  exact hm ⟨a.toNat, hv.2.1, hv.2.2, hw.2.1, hw.2.2⟩

end Sys2Proof.Machine

/-! ## Windows: WINDOW_SET, WINDOW_GET, WINDOW_CLEAR, the hit decision, translation, and power-on -/

namespace Sys2Proof.Machine

set_option Elab.async false

/-! ### The window requests for a link that accepts them -/

/-- Whether the window table is written before or after a reply is queued makes no difference. -/
theorem queueReply_setWindow (r : ReqId) (st : Status) (body : List Byte) (w : WindowId) (x : Window) (s : State) :
    queueReply r st body (s.setWindow w x) = { queueReply r st body s with windows := s.windows.set w x } := by
  rw [queueReply_eq, queueReply_eq]
  rfl

/-- Settles O7, check by check in the order of R11, R12 and R13. -/
theorem windowSet : Obligations.WindowSet := by
  intro seq payload s ha
  have hx : exec (.windowSet seq payload) s = .next (windowSetOwner payload (reqId Kind.windowSet seq payload s)
      (s.accepted Kind.windowSet seq payload)) := exec_of_accepts rfl rfl ha
  simp only [hx, windowSetOwner]
  refine ⟨fun hp => ?_, fun f hf => ⟨fun hbad => ?_, fun hgood w hw => ?_⟩⟩
  · simp [hp]
  · simp [hf, WindowFields.record_eq_none hbad]
  · simp only [hf, WindowFields.record_of_good hgood hw]
    refine ⟨fun ho => ?_, fun hno => ⟨fun hbusy => ?_, fun hfree => ?_⟩⟩
    · have ho' : overlapsOther (s.accepted Kind.windowSet seq payload) w f.taken = true :=
        (overlapsOther_iff _ _ _).mpr ho
      rw [if_pos ho', queueReply_accepted]
    all_goals
      have hno' : ¬overlapsOther (s.accepted Kind.windowSet seq payload) w f.taken = true := by
        rw [overlapsOther_iff]
        rintro ⟨v, hv, hs, hm⟩
        exact hno v hv hs hm
      rw [if_neg hno', accepted_window]
    · rw [if_pos hbusy, queueReply_accepted]
    · rw [if_neg, queueReply_setWindow, queueReply_accepted]
      · rfl
      · rcases hfree with h | ⟨h, hu⟩ <;> simp [*]

/-- Settles O9, by the ways a payload can name a window. -/
theorem windowGet : Obligations.WindowGet := by
  intro seq payload s ha
  have hx : exec (.windowGet seq payload) s = .next (windowGetOwner payload (reqId Kind.windowGet seq payload s)
      (s.accepted Kind.windowGet seq payload)) := exec_of_accepts rfl rfl ha
  simp only [hx, windowGetOwner]
  refine ⟨fun hp => ?_, fun b hb => ⟨fun hbig => ?_, fun w hw => ?_⟩⟩
  · simp [parseByte_eq_none hp]
  · subst hb
    simp [parseByte_singleton, windowOfByte_eq_none.mpr hbig]
  · subst hb
    simp [parseByte_singleton, windowOfByte_eq_some.mpr hw, Window.bytes]

theorem clearWindow_of_disabled {w : WindowId} {s : State} (h : (s.window w).state = .disabled) (r : ReqId) :
    clearWindow w r s = queueReply r .ok [] s := by
  simp [clearWindow, h]

theorem clearWindow_of_closing {w : WindowId} {s : State} (h : (s.window w).state = .closing) (r : ReqId) :
    clearWindow w r s = queueReply r .busy [] s := by
  simp [clearWindow, h]

theorem clearWindow_of_unused {w : WindowId} {s : State} (h : (s.window w).state = .enabled)
    (hu : (s.window w).useCount = 0) (r : ReqId) :
    clearWindow w r s = queueReply r .ok [] (s.setWindow w { s.window w with state := .disabled }) := by
  simp [clearWindow, h, hu]

theorem clearWindow_of_used {w : WindowId} {s : State} (h : (s.window w).state = .enabled)
    (hu : 0 < (s.window w).useCount) (r : ReqId) :
    clearWindow w r s = s.setWindow w { s.window w with state := .closing, clearReply := some r } := by
  simp [clearWindow, h, Nat.ne_of_gt hu]

/-- The removal of the last entry through a CLOSING window answers the deferred WINDOW_CLEAR (R15). -/
theorem releaseWindow_of_last_owed {w : WindowId} {r : ReqId} {s : State} (hc : (s.window w).state = .closing)
    (hu : (s.window w).useCount = 1) (hr : (s.window w).clearReply = some r) :
    releaseWindow w s = queueReply r .ok []
      (s.setWindow w { s.window w with state := .disabled, useCount := 0, clearReply := none }) := by
  rw [releaseWindow_of_last hc hu, hr, queueOwed_some]

/-- Settles O8: R14 by the four rules of `clearWindow`, R15 by what the removal of an entry does to its window. -/
theorem windowClearAndDrain : Obligations.WindowClearAndDrain := by
  refine ⟨fun seq payload s ha => ?_, fun w r s hc hu hr => ?_, fun w s hn => ?_, fun w r s hc hu hr => ?_,
    fun w s hn => ?_⟩
  · have hx : exec (.windowClear seq payload) s = .next (windowClearOwner payload
        (reqId Kind.windowClear seq payload s) (s.accepted Kind.windowClear seq payload)) :=
      exec_of_accepts rfl rfl ha
    simp only [hx, windowClearOwner, Host.Outcome.next.injEq]
    refine ⟨fun hp => ?_, fun b hb => ⟨fun hbig => ?_, fun w hw => ?_⟩⟩
    · simp [parseByte_eq_none hp]
    · subst hb
      simp [parseByte_singleton, windowOfByte_eq_none.mpr hbig]
    · subst hb
      simp only [parseByte_singleton, windowOfByte_eq_some.mpr hw]
      refine ⟨fun h => ?_, fun h hu => ?_, fun h hu => ?_, fun h => ?_⟩
      · rw [clearWindow_of_disabled (by exact h), queueReply_accepted]
      · rw [clearWindow_of_unused (by exact h) (by exact hu), queueReply_setWindow, queueReply_accepted]
        rfl
      · rw [clearWindow_of_used (by exact h) (by exact hu)]
        rfl
      · rw [clearWindow_of_closing (by exact h), queueReply_accepted]
  · show Host.Outcome.next (drainEnd w s) = _
    rw [drainEnd_of_due hc hu, hr]
    rfl
  · exact congrArg Host.Outcome.next (drainEnd_of_not_due hn)
  · exact releaseWindow_of_last_owed hc hu hr
  · rw [releaseWindow, drainEnd_of_not_due]
    · rfl
    · rw [setWindow_window_self]
      rintro ⟨hc, hz⟩
      have := hn hc
      simp only at hz
      omega

/-! ### The hit decision and translation -/

theorem State.WindowLaw.hit_eq_some {s : State} (h : s.WindowLaw) (a : Word) (w : WindowId) :
    hit s a = some w ↔ (s.window w).holds a = true := by
  refine ⟨window_holds_of_hit, fun hw => ?_⟩
  obtain ⟨v, hv⟩ := hit_isSome_of_holds hw
  rw [hv, h.eq_of_holds (window_holds_of_hit hv) hw]

theorem translate_direct {w : Window} (h : w.kind = .direct) (s : State) (a : Word) (write : Bool) :
    translate s w a write = .to w.slot (w.moduleBase + (a - w.base).setWidth 24) none := by
  simp [translate, h]

/-- R22: the lookup of the page entry a PAGED window names. -/
theorem translate_paged {w : Window} {s : State} {a : Word} {e : PageEntry} (h : w.kind = .paged)
    (he : s.page (w.entryIndex a) = e) (write : Bool) :
    translate s w a write =
      if e.valid = false then .pageFault
      else if write = true ∧ e.access = .readOnly then .readOnly e.slot (e.address (a - w.base).toNat)
      else .to e.slot (e.address (a - w.base).toNat) (some (w.entryIndex a)) := by
  simp [translate, h, he]

/-- A module address is the one a page entry gives when it is the frame's base and the offset in the page. -/
theorem PageEntry.address_eq {e : PageEntry} {offset : Nat} {m : ModAddr}
    (h : m.toNat = e.frame.toNat * 4096 + offset % 4096) : e.address offset = m := by
  rw [PageEntry.address, ← h, BitVec.ofNat_toNat, BitVec.setWidth_eq]

/-- Settles O14: the hit decision by `State.WindowLaw.hit_eq_some`, the translation by window kind. -/
theorem hitAndTranslation : Obligations.HitAndTranslation := by
  refine ⟨fun s a hl => ⟨fun w => Window.holds_iff _ _, fun v w hv hw => hl.eq_of_holds hv hw, hl.hit_eq_some a⟩,
    fun s w a write => ⟨fun hk => translate_direct hk s a write, fun hk n hn => ?_⟩⟩
  have hi : w.entryIndex a = n := hn.symm
  rw [translate_paged hk (congrArg s.page hi), hi]
  refine ⟨fun hv => ?_, fun hv m hm => ?_⟩
  · exact if_pos hv
  · rw [PageEntry.address_eq hm]
    refine ⟨fun hw ho => ?_, fun hw => ?_⟩
    · simp [hv, hw, ho]
    · rcases hw with hw | hw <;> simp [hv, hw]

/-! ### Power-on -/

theorem powerOn_rate (a b : Bool) :
    rateOf a b = if b = true then (if a = true then .baud6000000 else .baud3000000)
      else if a = true then .baud1000000 else .baud115200 := by
  cases a <;> cases b <;> rfl

theorem powerOnSlot_eq (present : Bool) :
    powerOnSlot present =
      { state := if present = true then .settling else .empty
        timer := if present = true then some { kind := .settle, ms := 250 } else none
        epoch := 0, descriptor := none, heartbeat := 0, lag := 0, skip := 0, silence := 0, attempts := 0
        attemptCause := none, faultCause := none, lastCause := .on, step := .none, held := none
        enrollReply := none } := by
  cases present <;> rfl

theorem reset_window (w : WindowId) : State.reset.window w = {} := by
  simp [State.reset, State.window]

theorem reset_page (i : Nat) : State.reset.page i = {} := by
  by_cases h : i < 2048 <;> simp [State.reset, State.page, Vector.getD, Array.getD, h]

/-- Settles O53: the state is a literal, so each field is read off; the slots, the windows and the page map by their own
lemmas. -/
theorem powerOn : Obligations.PowerOn := by
  intro pins s
  refine ⟨_, rfl, rfl, ?_, ?_⟩
  · rw [← powerOn_rate]
    rfl
  · repeat refine ⟨rfl, ?_⟩
    refine ⟨fun i => ?_, fun w => ?_, reset_page⟩
    · simp [State.reset, State.slot, levels, powerOnSlot_eq]
    · show (State.reset.window w).state = _ ∧ (State.reset.window w).useCount = _ ∧
        (State.reset.window w).clearReply = _
      simp [reset_window]

end Sys2Proof.Machine

/-! ## ACCESS_ABORT: the rules -/

namespace Sys2Proof.Machine

set_option Elab.async false

/-! ### ACCESS_ABORT finds its entry (R53) -/

section Found

variable {q : Byte} {front rest : List QEntry} {s : State}

theorem eraseIdx_place (front rest : List QEntry) (e : QEntry) :
    (front ++ e :: rest).eraseIdx front.length = front ++ rest := by
  rw [List.eraseIdx_append_of_length_le (Nat.le_refl _)]
  simp

theorem accessAbortOwner_of_found {e : QEntry} (hq : s.xfer.queue = front ++ e :: rest)
    (hf : ∀ e ∈ front, e.seq ≠ q) (he : e.seq = q) (r : ReqId) :
    accessAbortOwner [q] r s = abortAt front.length e r s := by
  have hi : s.xfer.queue.findIdx? (fun e => e.seq = q) = some front.length := by
    rw [hq, List.findIdx?_append]
    have hn : front.findIdx? (fun e => decide (e.seq = q)) = none := by
      simpa [List.findIdx?_eq_none_iff] using hf
    simp [hn, List.findIdx?_cons, he]
  have hg : s.xfer.queue[front.length]? = some e := by simp [hq]
  simp [accessAbortOwner, parseByte_singleton, hi, hg]

/-- R55: what an abort answers for a transfer it removes: its own ABORTED unless it is posted, and then the abort's
OK. -/
def Transfer.abortAnswers (x : Transfer) (r : ReqId) (session : Nat) : List Reply :=
  (if x.posted = false ∧ x.req.session = session then [x.req.reply .aborted (x.replyBody .aborted {})] else []) ++
    (if r.session = session then [r.reply .ok (countBytes x.completed)] else [])

theorem answerTransfer_aborted (x : Transfer) (r : ReqId) (s : State) :
    answerTransfer { x with aborts := [r] } .aborted {} s = { s with link := { s.link with
      replies := s.link.replies ++ x.abortAnswers r s.link.session } } := by
  have hb : Transfer.replyBody { x with aborts := [r] } .aborted {} = x.replyBody .aborted {} := rfl
  rw [answerTransfer_eq, Transfer.abortAnswers, hb]
  by_cases hr : r.session = s.link.session <;> cases x.posted <;> simp [hr, XferEnd.status]

/-- R54: the removal of a transfer by an abort, up to the arbiter's fields: answered, its window released, its entry
gone, and the new head looked at. -/
theorem abortAt_transfer {x : Transfer} (hq : s.xfer.queue = front ++ .transfer x :: rest)
    (hi : ¬(front.length = 0 ∧ x.state = .issuing)) (r : ReqId) :
    ∃ a, abortAt front.length (.transfer x) r s = newHead (setQueue (front ++ rest) (releaseWindow x.window
      (answerTransfer { x with aborts := [r] } .aborted {} { s with arb := a }))) := by
  simp only [abortAt, if_neg hi, answerAborted]
  split
  · refine ⟨(withdrawRequest .transfer s).arb, ?_⟩
    simp only [releaseWindow_frame, answerTransfer_frame, withdrawRequest_frame, hq, eraseIdx_place]
    rfl
  · refine ⟨s.arb, ?_⟩
    simp only [releaseWindow_frame, answerTransfer_frame, hq, eraseIdx_place]

theorem abortAt_fence {f : ReqId} (hq : s.xfer.queue = front ++ .fence f :: rest) (r : ReqId) :
    abortAt front.length (.fence f) r s =
      newHead (setQueue (front ++ rest) (queueReply r .ok (countBytes 0) (queueReply f .aborted [] s))) := by
  simp [abortAt, answerAborted, hq, eraseIdx_place]

end Found

end Sys2Proof.Machine

/-! ## The laws of the tables: the shared operations

`KeepsTables s t` says that the window law and the page law pass from `s` to `t`; it composes, and each operation has one
lemma. The window law is split into what it asks of one record (`Window.Lawful`) and what it asks of the table. -/

namespace Sys2Proof.Machine

set_option Elab.async false

/-! ### The users of a window -/

/-- A queue entry is a transfer through a window (R7). -/
def QEntry.uses (w : WindowId) : QEntry → Bool
  | .transfer t => t.window = w
  | .fence _ => false

@[simp] theorem QEntry.uses_transfer (w : WindowId) (t : Transfer) :
    (QEntry.transfer t).uses w = decide (t.window = w) := rfl

@[simp] theorem QEntry.uses_fence (w : WindowId) (r : ReqId) : (QEntry.fence r).uses w = false := rfl

theorem usersOf_eq (s : State) (w : WindowId) : s.usersOf w = s.xfer.queue.countP (QEntry.uses w) := by
  unfold State.usersOf
  congr 1

/-! ### The window law, window by window -/

/-- What the window law asks of one record by itself (R2, R7, R10, R11, R14, R15). -/
structure Window.Lawful (r : Window) : Prop where
  closing  : r.state = .closing → 0 < r.useCount
  disabled : r.state = .disabled → r.useCount = 0
  owed     : r.clearReply.isSome = true ↔ r.state = .closing
  size     : 16 ≤ r.sizeLog2 ∧ r.sizeLog2 ≤ 24
  aligned  : r.base.toNat % 2 ^ r.sizeLog2 = 0 ∧ r.moduleBase.toNat % 2 ^ r.sizeLog2 = 0
  mapped   : r.kind = .paged → r.origin + 2 ^ r.sizeLog2 / 4096 ≤ 2048

theorem State.WindowLaw.lawful {s : State} (h : s.WindowLaw) (w : WindowId) : (s.window w).Lawful :=
  ⟨h.closing w, h.disabled w, h.owed w, h.size w, h.aligned w, h.mapped w⟩

theorem State.WindowLaw.of_lawful {s : State} (queue : s.xfer.queue.length ≤ Config.queueEntries)
    (failures : s.xfer.postedFailures ≤ 65535) (uses : ∀ w, (s.window w).useCount = s.usersOf w)
    (lawful : ∀ w, (s.window w).Lawful)
    (apart : ∀ v w, v ≠ w → (s.window v).state ≠ .disabled → (s.window w).state ≠ .disabled →
      (s.window v).meets (s.window w) = false) : s.WindowLaw :=
  ⟨queue, failures, uses, fun w => (lawful w).closing, fun w => (lawful w).disabled, fun w => (lawful w).owed,
    fun w => (lawful w).size, fun w => (lawful w).aligned, fun w => (lawful w).mapped, apart⟩

/-- A change of the queue alone keeps the window law when every window keeps its number of users. -/
theorem State.WindowLaw.of_queue {s t : State} (h : s.WindowLaw) (hw : t.windows = s.windows)
    (hl : t.xfer.queue.length ≤ Config.queueEntries) (hf : t.xfer.postedFailures ≤ 65535)
    (hu : ∀ w, t.usersOf w = s.usersOf w) : t.WindowLaw := by
  have he : ∀ w, t.window w = s.window w := fun w => by simp [State.window, hw]
  refine .of_lawful hl hf (fun w => ?_) (fun w => ?_) (fun v w => ?_)
  · rw [he, hu, h.uses]
  · rw [he]; exact h.lawful w
  · rw [he, he]; exact h.apart v w

/-- A change of one window and the queue keeps the window law when the new record is lawful, counts its users, and
shares no address with another window unless it is DISABLED, and every other window keeps its number of users. -/
theorem State.WindowLaw.of_set {s t : State} {w : WindowId} {r : Window} (h : s.WindowLaw)
    (hw : t.windows = s.windows.set w r) (hl : t.xfer.queue.length ≤ Config.queueEntries)
    (hf : t.xfer.postedFailures ≤ 65535) (hr : r.Lawful) (huse : r.useCount = t.usersOf w)
    (hu : ∀ v, v ≠ w → t.usersOf v = s.usersOf v)
    (ha : r.state ≠ .disabled → ∀ v, v ≠ w → (s.window v).state ≠ .disabled → r.meets (s.window v) = false) :
    t.WindowLaw := by
  have hself : t.window w = r := by simp [State.window, hw]
  have hne : ∀ v, v ≠ w → t.window v = s.window v := by
    intro v hv
    have hv' : w.val ≠ v.val := fun e => hv (Fin.ext e.symm)
    simp [State.window, hw, Vector.getElem_set_ne _ _ hv']
  refine .of_lawful hl hf (fun v => ?_) (fun v => ?_) (fun u v huv => ?_)
  · by_cases hv : v = w
    · subst hv; rw [hself, huse]
    · rw [hne v hv, hu v hv, h.uses]
  · by_cases hv : v = w
    · subst hv; rw [hself]; exact hr
    · rw [hne v hv]; exact h.lawful v
  · by_cases h1 : u = w
    · subst h1
      rw [hself, hne v huv.symm]
      exact fun hs => ha hs v huv.symm
    · by_cases h2 : v = w
      · subst h2
        rw [hself, hne u h1, Window.meets_comm]
        exact fun hus hrs => ha hrs u h1 hus
      · rw [hne u h1, hne v h2]
        exact h.apart u v huv

/-- A record with the range of a window that is not DISABLED shares no address with another window. -/
theorem State.WindowLaw.apart_of_range {s : State} {w : WindowId} {r : Window} (h : s.WindowLaw)
    (hb : r.base = (s.window w).base) (hz : r.sizeLog2 = (s.window w).sizeLog2)
    (hs : (s.window w).state ≠ .disabled) (v : WindowId) (hv : v ≠ w) (hd : (s.window v).state ≠ .disabled) :
    r.meets (s.window v) = false := by
  have hm := h.apart w v hv.symm hs hd
  have hl : r.limit = (s.window w).limit := by rw [Window.limit, Window.limit, hb, hz]
  rwa [Window.meets, hb, hl]

/-! ### What keeps both laws -/

/-- Both laws, the window table's and the page map's, pass from one state to another. -/
structure KeepsTables (s t : State) : Prop where
  windows : s.WindowLaw → t.WindowLaw
  pages   : s.PageLaw → t.PageLaw

namespace KeepsTables

theorem refl (s : State) : KeepsTables s s := ⟨id, id⟩

theorem trans {s t u : State} (h : KeepsTables s t) (k : KeepsTables t u) : KeepsTables s u :=
  ⟨fun hs => k.windows (h.windows hs), fun hs => k.pages (h.pages hs)⟩

/-- The page map stands as it was, and the window law passes on. -/
theorem of_pages {s t : State} (hp : t.pages = s.pages) (hw : s.WindowLaw → t.WindowLaw) : KeepsTables s t :=
  ⟨hw, fun h i => by simpa [State.page, hp] using h i⟩

/-- The tables stand as they were. -/
theorem of_same {s t : State} (h : t.windows = s.windows ∧ t.pages = s.pages ∧ t.xfer.queue = s.xfer.queue ∧
    t.xfer.postedFailures = s.xfer.postedFailures) : KeepsTables s t := by
  obtain ⟨hw, hp, hq, hf⟩ := h
  refine .of_pages hp fun hl => hl.of_queue hw ?_ ?_ fun w => ?_
  · rw [hq]; exact hl.queue
  · rw [hf]; exact hl.failures
  · rw [usersOf_eq, usersOf_eq, hq]

/-- The tables stand as at power-on. -/
theorem of_reset {s t : State} (hw : t.windows = State.reset.windows) (hp : t.pages = State.reset.pages)
    (hq : t.xfer.queue = []) (hf : t.xfer.postedFailures = 0) : KeepsTables s t := by
  have hwin : ∀ w, t.window w = {} := fun w => by rw [State.window, hw]; exact reset_window w
  have hpage : ∀ i, t.page i = {} := fun i => by rw [State.page, hp]; exact reset_page i
  refine ⟨fun _ => .of_lawful ?_ ?_ (fun w => ?_) (fun w => ?_) (fun v w _ hv => ?_), fun _ i _ => ?_⟩
  · simp [hq]
  · simp [hf]
  · simp [hwin, usersOf_eq, hq]
  · rw [hwin]
    constructor <;> simp
  · exact absurd (by rw [hwin]) hv
  · rw [hpage]
    exact ⟨rfl, rfl⟩

theorem settle {s t : State} (h : KeepsTables s t) : KeepsTables s (settle t) := h.trans (.of_same (by simp))

theorem queueReply {s t : State} (h : KeepsTables s t) (r : ReqId) (st : Status) (body : List Byte) :
    KeepsTables s (queueReply r st body t) := h.trans (.of_same (by simp))

theorem returnGrant {s t : State} (h : KeepsTables s t) : KeepsTables s (returnGrant t) :=
  h.trans (.of_same (by simp))

end KeepsTables

/-! ### Removals, fences and the head (R48, R52) -/

theorem answerTransfer_failures {t : Transfer} {o : XferEnd} {info : SwapInfo} {s : State}
    (h : s.xfer.postedFailures ≤ 65535) : (answerTransfer t o info s).xfer.postedFailures ≤ 65535 := by
  rw [answerTransfer_eq]
  dsimp only
  split
  · exact Nat.min_le_right ..
  · exact h

/-- The record of a window once an entry through it has been removed (R7, R15). -/
def Window.released (r : Window) : Window :=
  if r.state = .closing ∧ r.useCount = 1 then { r with state := .disabled, useCount := 0, clearReply := none }
  else { r with useCount := r.useCount - 1 }

theorem releaseWindow_windows {w : WindowId} {s : State}
    (h : (s.window w).state = .closing → 0 < (s.window w).useCount) :
    (releaseWindow w s).windows = s.windows.set w (s.window w).released := by
  unfold Window.released
  split
  · next hd => rw [releaseWindow_of_last hd.1 hd.2, queueOwed_eq]; rfl
  · next hd =>
    rw [releaseWindow, drainEnd_of_not_due]
    · rfl
    · rw [setWindow_window_self]
      rintro ⟨hc, hz⟩
      have := h hc
      exact hd ⟨hc, by simp only at hz; omega⟩

/-- The release of a used window leaves a lawful record with one user less. -/
theorem Window.Lawful.released {r : Window} (h : r.Lawful) (hu : 0 < r.useCount) :
    r.released.Lawful ∧ r.released.useCount = r.useCount - 1 := by
  unfold Window.released
  split
  · next hd =>
    refine ⟨⟨?_, ?_, ?_, h.size, h.aligned, h.mapped⟩, ?_⟩ <;> simp [hd.2]
  · next hd =>
    refine ⟨⟨fun hc => ?_, fun hs => ?_, h.owed, h.size, h.aligned, h.mapped⟩, rfl⟩
    · have : r.useCount ≠ 1 := fun e => hd ⟨hc, e⟩
      simp only
      omega
    · have : r.useCount = 0 := h.disabled hs
      omega

@[simp] theorem Window.released_range (r : Window) :
    r.released.base = r.base ∧ r.released.sizeLog2 = r.sizeLog2 := by
  unfold Window.released
  split <;> exact ⟨rfl, rfl⟩

/-- A transfer leaves the queue from any place: answered, its window released, its entry gone (R48). -/
theorem removeTransfer_keeps {s : State} {front rest : List QEntry} {x : Transfer}
    (hq : s.xfer.queue = front ++ .transfer x :: rest) (t : Transfer) (o : XferEnd) (info : SwapInfo) :
    KeepsTables s (setQueue (front ++ rest) (releaseWindow x.window (answerTransfer t o info s))) := by
  refine .of_pages (by simp) fun h => ?_
  have hsame : (answerTransfer t o info s).window x.window = s.window x.window := by simp [State.window]
  have hcount : ∀ v, s.usersOf v = (front ++ rest).countP (QEntry.uses v) + if x.window = v then 1 else 0 := by
    intro v
    rw [usersOf_eq, hq]
    simp only [List.countP_append, List.countP_cons, QEntry.uses_transfer, decide_eq_true_eq]
    omega
  have hused : 0 < (s.window x.window).useCount := by
    rw [h.uses, hcount, if_pos rfl]
    omega
  obtain ⟨hlaw, huse⟩ := (h.lawful x.window).released hused
  refine h.of_set (w := x.window) (r := (s.window x.window).released) ?_ ?_ ?_ hlaw ?_ (fun v hv => ?_) (fun _ => ?_)
  · rw [(setQueue_frame _ _).2.1, releaseWindow_windows (by rw [hsame]; exact fun _ => hused), hsame]
    simp
  · have := h.queue
    rw [hq] at this
    simp only [setQueue, List.length_append, List.length_cons] at this ⊢
    omega
  · simpa [setQueue] using answerTransfer_failures h.failures
  · rw [huse, h.uses, hcount, if_pos rfl, usersOf_eq]
    rfl
  · rw [hcount, if_neg (Ne.symm hv), usersOf_eq]
    rfl
  · refine h.apart_of_range (w := x.window) (by simp) (by simp) fun hd => ?_
    have := h.disabled _ hd
    omega

/-- A fence leaves the queue from any place. -/
theorem removeFence_keeps {s : State} {front rest : List QEntry} {r : ReqId}
    (hq : s.xfer.queue = front ++ .fence r :: rest) : KeepsTables s (setQueue (front ++ rest) s) := by
  refine .of_pages (by simp) fun h => h.of_queue (by simp) ?_ (by simpa using h.failures) fun w => ?_
  · have := h.queue
    rw [hq] at this
    simp only [setQueue, List.length_append, List.length_cons] at this ⊢
    omega
  · rw [usersOf_eq, usersOf_eq, hq]
    simp [setQueue, List.countP_append]

theorem answerFence_keeps (r : ReqId) (s : State) : KeepsTables s (answerFence r s) := by
  refine .of_pages (by simp) fun h => h.of_queue (by simp) ?_ ?_ fun w => ?_
  · simpa using h.queue
  · simp [answerFence]
  · simp [usersOf_eq]

theorem fencesAtHead_keeps {q : List QEntry} {s : State} (h : s.xfer.queue = q) :
    KeepsTables s (fencesAtHead q s) := by
  induction q generalizing s with
  | nil => exact .refl s
  | cons e q ih =>
    cases e with
    | transfer t => exact .refl s
    | fence r =>
      have hq : KeepsTables s (setQueue q s) := removeFence_keeps (front := []) h
      exact (hq.trans (answerFence_keeps r _)).trans (ih (by simp [setQueue]))

theorem newHead_keeps (s : State) : KeepsTables s (newHead s) := fencesAtHead_keeps rfl

section Head

variable {s : State} {x : Transfer} {rest : List QEntry}

theorem leaveHead_keeps (hq : s.xfer.queue = .transfer x :: rest) (t : Transfer) (o : XferEnd) (info : SwapInfo)
    (hw : t.window = x.window := by rfl) : KeepsTables s (leaveHead t o info s) := by
  have ht : (releaseWindow t.window (answerTransfer t o info s)).xfer.queue.tail = [] ++ rest := by simp [hq]
  rw [leaveHead, ht, hw]
  exact (removeTransfer_keeps (front := []) hq t o info).trans (newHead_keeps _)

theorem setHead_keeps (hq : s.xfer.queue = .transfer x :: rest) (t : Transfer)
    (hw : t.window = x.window := by rfl) : KeepsTables s (setHead t s) := by
  refine .of_pages (by simp) fun h => h.of_queue (by simp) ?_ (by simpa using h.failures) fun w => ?_
  · have := h.queue
    rw [hq] at this
    simpa [setHead, setQueue, hq] using this
  · simp [usersOf_eq, setHead, setQueue, hq, List.countP_cons, hw]

theorem retryHead_keeps (hq : s.xfer.queue = .transfer x :: rest) (place : SlotId × ModAddr) :
    KeepsTables s (retryHead x place s) := by
  unfold retryHead
  split
  · exact leaveHead_keeps hq ..
  · exact setHead_keeps hq _

theorem segmentResult_keeps (hq : s.xfer.queue = .transfer x :: rest) (place : SlotId × ModAddr) (r : Result)
    (data : List Byte) : KeepsTables s (segmentResult x place r data s) := by
  unfold segmentResult
  split
  · refine leaveHead_keeps hq _ _ _ ?_
    split <;> rfl
  · cases r with
    | ack =>
      dsimp only
      split
      · exact leaveHead_keeps hq ..
      · exact setHead_keeps hq _
    | retry => exact retryHead_keeps hq place
    | reject | dataError | parity | noResponse | absent => exact leaveHead_keeps hq ..

end Head

/-! ### The locked pair (R25, R57, R58) -/

/-- A change of the pair alone. -/
theorem setPair_keeps (p : Option Pair) (s : State) : KeepsTables s { s with xfer := { s.xfer with pair := p } } :=
  .of_same ⟨rfl, rfl, rfl, rfl⟩

/-- A page entry that is VALID may have its indications set (R23). -/
theorem markPage_keeps {entry : Option Nat} {s : State} (h : ∀ i, entry = some i → (s.page i).valid = true)
    (referenced written : Bool) : KeepsTables s (markPage entry referenced written s) := by
  cases entry with
  | none => exact .refl s
  | some i =>
    refine ⟨fun hl => ?_, fun hl j => ?_⟩
    · exact hl.of_queue rfl hl.queue hl.failures fun _ => rfl
    · have hv := h i rfl
      by_cases hij : i = j
      · subst hij
        by_cases hi : i < 2048
        · simp [markPage, setPage_page_self _ _ hi, hv]
        · simp [State.page, Vector.getD, Array.getD, hi] at hv
      · rw [markPage, setPage_page_of_ne _ _ hij]
        exact hl j

theorem writtenEntry_valid {p : Pair} {s : State} {i : Nat} (h : p.writtenEntry s = some i) :
    (s.page i).valid = true := by
  unfold Pair.writtenEntry at h
  split at h
  · exact (Option.filter_eq_some_iff.mp h).2
  · cases h

theorem endPair_keeps (p : Pair) (o : XferEnd) (lockUnknown : Bool) (s : State) :
    KeepsTables s (endPair p o lockUnknown s) := by
  refine (setPair_keeps none s).trans ?_
  unfold endPair
  dsimp only
  split
  · exact .refl _
  · have hg := KeepsTables.returnGrant (.refl { s with xfer := { s.xfer with pair := none } })
    split
    · next t rest hq =>
      refine hg.trans (leaveHead_keeps (x := t) (rest := rest) (by exact hq) _ _ _ ?_)
      split <;> rfl
    · exact hg

theorem secondResult_keeps (p : Pair) (r : Result) (s : State) : KeepsTables s (secondResult p r s) := by
  unfold secondResult
  split
  · exact endPair_keeps ..
  · split
    · exact endPair_keeps ..
    · have hp := setPair_keeps (some { p with retries := p.retries + 1, stage := .resend s.params.retryDelay }) s
      dsimp only
      split
      · next t rest hq =>
        split
        · exact hp
        · exact hp.trans (setHead_keeps (x := t) (rest := rest) (by exact hq) _)
      · exact hp
  · exact endPair_keeps ..
  · exact endPair_keeps ..

theorem sendSecond_keeps (p : Pair) (s : State) : KeepsTables s (sendSecond p s) := by
  have hm : KeepsTables s (markPage (p.writtenEntry s) false true s) :=
    markPage_keeps (fun i hi => writtenEntry_valid hi) false true
  have hp := hm.trans (setPair_keeps (some { p with stage := .second }) _)
  unfold sendSecond
  dsimp only
  split
  · exact hp.trans (.of_same (by simp))
  · refine (hp.trans (.of_same ?_)).trans (secondResult_keeps ..)
    split <;> simp

theorem lockReadResult_keeps (p : Pair) (r : Result) (data : List Byte) (s : State) :
    KeepsTables s (lockReadResult p r data s) := by
  unfold lockReadResult
  split
  · exact sendSecond_keeps ..
  · have hp := setPair_keeps none s
    dsimp only
    split
    · exact hp
    · split
      · next t rest hq =>
        split
        · exact hp.returnGrant.trans (retryHead_keeps (rest := rest) (by exact hq) _)
        · exact hp.returnGrant.trans (leaveHead_keeps (x := t) (rest := rest) (by exact hq) ..)
      · exact hp.returnGrant
  · exact endPair_keeps ..

theorem pairResult_keeps (p : Pair) (r : Result) (data : List Byte) (s : State) :
    KeepsTables s (pairResult p r data s) := by
  unfold pairResult
  split
  · exact lockReadResult_keeps ..
  · exact secondResult_keeps ..
  · exact secondResult_keeps ..

theorem transferResult_keeps (t : Tx) (r : Result) (data : List Byte) (s : State) :
    KeepsTables s (transferResult t r data s) := by
  have hg := KeepsTables.returnGrant (.refl s)
  unfold transferResult
  split
  · exact pairResult_keeps ..
  · split
    · exact .refl s
    · split
      · next x rest hq => exact hg.trans (segmentResult_keeps (rest := rest) (by exact hq) ..)
      · exact hg

/-! ### Transactions (R42, R65, R70, R71) -/

theorem superviseTakes_keeps (i : SlotId) (r : Result) (s : State) : KeepsTables s (superviseTakes i r s) :=
  .of_same (by simp)

theorem orphanResult_keeps (t : Tx) (r : Result) (data : List Byte) (s : State) :
    KeepsTables s (orphanResult t r data s) := by
  unfold orphanResult
  split
  · exact transferResult_keeps ..
  · exact .of_same ⟨rfl, rfl, rfl, rfl⟩
  · exact .refl s
  · exact .refl s

theorem deliver_keeps (t : Tx) (r : Result) (data : List Byte) (s : State) : KeepsTables s (deliver t r data s) := by
  unfold deliver
  split
  · exact .of_same (by simp)
  · exact .of_same (by simp)
  · exact (superviseTakes_keeps ..).trans (transferResult_keeps ..)
  · exact .of_same (by simp)

theorem finishTx_keeps (t : Tx) (r : Result) (data : List Byte) (s : State) :
    KeepsTables s (finishTx t r data s) := by
  have hc : KeepsTables s (clearTx t r s) := .of_same (by simp)
  unfold finishTx
  dsimp only
  split
  · exact hc.trans (orphanResult_keeps ..)
  · exact hc.trans (deliver_keeps ..)

theorem beginTx_keeps (t : Tx) (s : State) : KeepsTables s (beginTx t s) := by
  unfold beginTx
  split
  · exact .of_same (by simp)
  · exact finishTx_keeps ..

theorem slotLost_keeps (i : SlotId) (s : State) : KeepsTables s (slotLost i s) := by
  unfold slotLost
  split
  · split
    · exact finishTx_keeps ..
    · exact .refl s
  · split
    · split
      · exact endPair_keeps ..
      · exact .refl s
    · exact .refl s

/-- A translation goes to a place through a page entry only when the entry is VALID (R22). -/
theorem page_valid_of_translate {s : State} {w : Window} {a : Word} {write : Bool} {slot : SlotId} {addr : ModAddr}
    {i : Nat} (h : translate s w a write = .to slot addr (some i)) : (s.page i).valid = true := by
  cases hk : w.kind with
  | direct => rw [translate_direct hk] at h; cases h
  | paged =>
    rw [translate_paged hk rfl] at h
    split at h
    · cases h
    · next hv =>
      split at h
      · cases h
      · cases h
        simpa using hv

theorem startSegment_keeps {s : State} {x : Transfer} {rest : List QEntry} {entry : Option Nat}
    (hq : s.xfer.queue = .transfer x :: rest) (he : ∀ i, entry = some i → (s.page i).valid = true) (slot : SlotId)
    (addr : ModAddr) : KeepsTables s (startSegment x slot addr entry s) := by
  have hh := setHead_keeps hq { x with state := .issuing, issued := x.segmentEnd }
  have hm := hh.trans (markPage_keeps (s := setHead _ s) he true x.kind.marksWritten)
  exact (hm.trans (setPair_keeps (x.openPair slot addr entry) _)).trans (beginTx_keeps ..)

theorem issueHead_keeps {s : State} {x : Transfer} {rest : List QEntry} (hq : s.xfer.queue = .transfer x :: rest) :
    KeepsTables s (issueHead x s) := by
  unfold issueHead
  split
  · exact (leaveHead_keeps hq ..).returnGrant
  · exact (leaveHead_keeps hq ..).returnGrant
  · next slot addr entry ht =>
    split
    · exact startSegment_keeps hq (fun i hi => page_valid_of_translate (hi ▸ ht)) slot addr
    · exact (leaveHead_keeps hq ..).returnGrant

theorem assertReset_keeps (i : SlotId) (st : SlotState) (cause : LastCause) (timer : Option SlotTimer) (s : State) :
    KeepsTables s (assertReset i st cause timer s) := by
  have hs : KeepsTables s (unlockModule i (changeState i st cause
      (dropItems i (s.modifySlot i fun r => r.clearedCounts timer)))) := .of_same (by simp)
  exact (hs.trans (slotLost_keeps i _)).trans (.of_same (t := enrollDown i _) (by simp))

end Sys2Proof.Machine

/-! ## The laws of the tables: the owners of the requests -/

namespace Sys2Proof.Machine

set_option Elab.async false

/-! ### The owners of the requests (R170) -/

/-- The record of a WINDOW_SET that passes R11 is lawful: ENABLED, unused, owing no reply, of a size, base and origin
that R11 admits. -/
theorem WindowFields.Good.lawful {f : WindowFields} (h : f.Good) : f.taken.Lawful := by
  refine ⟨?_, ?_, ?_, h.size, ⟨h.base, ?_⟩, ?_⟩ <;> simp only [WindowFields.taken, reduceCtorEq]
  · exact False.elim
  · exact False.elim
  · simp
  · split
    · next hd => exact (h.direct hd).2
    · simp
  · intro hp
    have hd : f.kind ≠ 0 := fun e => by simp [e] at hp
    have h1 : f.kind = 1 := (byte_le_one.mp h.kind).resolve_left hd
    rw [if_neg hd]
    exact (h.paged h1).2

theorem windowSetOwner_keeps (p : List Byte) (r : ReqId) (s : State) : KeepsTables s (windowSetOwner p r s) := by
  unfold windowSetOwner
  split
  · exact (KeepsTables.refl s).queueReply ..
  · split
    · exact (KeepsTables.refl s).queueReply ..
    · next w x hx =>
      obtain ⟨hg, hw, rfl⟩ := WindowFields.record_eq_some.mp hx
      split
      · exact (KeepsTables.refl s).queueReply ..
      · next ho =>
        split
        · exact (KeepsTables.refl s).queueReply ..
        · next hb =>
          refine KeepsTables.queueReply ?_ ..
          refine .of_pages rfl fun h => ?_
          refine h.of_set rfl h.queue h.failures hg.lawful ?_ (fun _ _ => rfl) fun _ v hv hs => ?_
          · have hu : (s.window w).useCount = 0 := by
              cases hst : (s.window w).state with
              | disabled => exact h.disabled w hst
              | enabled => simpa [hst] using hb
              | closing => simp [hst] at hb
            exact hu.symm.trans (h.uses w)
          · rw [Bool.eq_false_iff]
            intro hm
            exact ho ((overlapsOther_iff ..).mpr ⟨v, hv, hs, (Window.meets_iff ..).mp hm⟩)

theorem clearWindow_keeps (w : WindowId) (r : ReqId) (s : State) : KeepsTables s (clearWindow w r s) := by
  cases hs : (s.window w).state with
  | disabled =>
    rw [clearWindow_of_disabled hs]
    exact (KeepsTables.refl s).queueReply ..
  | closing =>
    rw [clearWindow_of_closing hs]
    exact (KeepsTables.refl s).queueReply ..
  | enabled =>
    rcases Nat.eq_zero_or_pos (s.window w).useCount with hu | hu
    · rw [clearWindow_of_unused hs hu]
      refine KeepsTables.queueReply ?_ ..
      refine .of_pages rfl fun h => ?_
      have hl := h.lawful w
      refine h.of_set rfl h.queue h.failures ⟨by simp, fun _ => hu, ?_, hl.size, hl.aligned, hl.mapped⟩ (h.uses w)
        (fun _ _ => rfl) fun hd => absurd rfl hd
      simpa [hs] using hl.owed
    · rw [clearWindow_of_used hs hu]
      refine .of_pages rfl fun h => ?_
      have hl := h.lawful w
      refine h.of_set rfl h.queue h.failures ⟨fun _ => hu, by simp, by simp, hl.size, hl.aligned, hl.mapped⟩ (h.uses w)
        (fun _ _ => rfl) fun _ => h.apart_of_range ?_ ?_ ?_
      · rfl
      · rfl
      · simp [hs]

theorem windowClearOwner_keeps (p : List Byte) (r : ReqId) (s : State) :
    KeepsTables s (windowClearOwner p r s) := by
  unfold windowClearOwner
  split
  · exact (KeepsTables.refl s).queueReply ..
  · split
    · exact (KeepsTables.refl s).queueReply ..
    · exact clearWindow_keeps ..

theorem windowGetOwner_keeps (p : List Byte) (r : ReqId) (s : State) : KeepsTables s (windowGetOwner p r s) := by
  unfold windowGetOwner
  (repeat' split) <;> exact (KeepsTables.refl s).queueReply ..

/-- A page entry with both indications clear may be written anywhere (R23, R29, R31). -/
theorem setPage_keeps (s : State) (i : Nat) {e : PageEntry} (hr : e.referenced = false) (hw : e.written = false) :
    KeepsTables s (s.setPage i e) := by
  refine ⟨fun h => h.of_queue rfl h.queue h.failures fun _ => rfl, fun h j => ?_⟩
  by_cases hij : i = j
  · subst hij
    by_cases hi : i < 2048
    · rw [setPage_page_self _ _ hi]
      exact fun _ => ⟨hr, hw⟩
    · have hs : s.setPage i e = s := by
        simp [State.setPage, Vector.setIfInBounds, Array.setIfInBounds, hi]
      rw [hs]
      exact h i
  · rw [setPage_page_of_ne _ _ hij]
    exact h j

/-- An entry that PAGE_WRITE writes has both indications clear (R29). -/
theorem entry_clear {p : PageSet} {e : PageEntry} (h : p.entry = some e) :
    e.referenced = false ∧ e.written = false := by
  unfold PageSet.entry at h
  split at h
  · split at h
    · cases h
      exact ⟨rfl, rfl⟩
    · cases h
  · cases h

theorem pageEntriesOf_clear {ps : List PageSet} {es : List PageEntry} (h : pageEntriesOf ps = some es) :
    ∀ e ∈ es, e.referenced = false ∧ e.written = false := by
  induction ps generalizing es with
  | nil =>
    cases h
    simp
  | cons p ps ih =>
    unfold pageEntriesOf at h
    split at h
    · next e0 es0 he hes =>
      cases h
      intro e hm
      rcases List.mem_cons.mp hm with rfl | hm
      · exact entry_clear he
      · exact ih hes e hm
    · cases h

theorem writePages_keeps (es : List PageEntry) (h : ∀ e ∈ es, e.referenced = false ∧ e.written = false) (first : Nat)
    (s : State) : KeepsTables s (writePages first es s) := by
  induction es generalizing first s with
  | nil => exact .refl s
  | cons e es ih =>
    obtain ⟨hr, hw⟩ := h e List.mem_cons_self
    exact (setPage_keeps s first hr hw).trans (ih (fun e he => h e (List.mem_cons_of_mem _ he)) _ _)

theorem clearPages_keeps (first n : Nat) (s : State) : KeepsTables s (clearPages first n s) := by
  induction n generalizing first s with
  | zero => exact .refl s
  | succ n ih => exact (setPage_keeps s first (e := (s.page first).cleared) rfl rfl).trans (ih _ _)

theorem pageWriteOwner_keeps (p : List Byte) (r : ReqId) (s : State) : KeepsTables s (pageWriteOwner p r s) := by
  unfold pageWriteOwner
  split
  · exact (KeepsTables.refl s).queueReply ..
  · split
    · split
      · exact (KeepsTables.refl s).queueReply ..
      · next es hes => exact (writePages_keeps es (pageEntriesOf_clear hes) _ s).queueReply ..
    · exact (KeepsTables.refl s).queueReply ..

theorem pageReadOwner_keeps (p : List Byte) (r : ReqId) (s : State) : KeepsTables s (pageReadOwner p r s) := by
  unfold pageReadOwner
  (repeat' split) <;> exact (KeepsTables.refl s).queueReply ..

theorem pageSweepOwner_keeps (p : List Byte) (r : ReqId) (s : State) : KeepsTables s (pageSweepOwner p r s) := by
  unfold pageSweepOwner
  split
  · exact (KeepsTables.refl s).queueReply ..
  · split
    · exact (clearPages_keeps ..).queueReply ..
    · exact (KeepsTables.refl s).queueReply ..

/-- An access that passes R38 finds room in the queue and an ENABLED window. -/
theorem checkAccess_ok {start : Word} {length : Nat} {kind : XferKind} {s : State} {w : WindowId}
    (h : checkAccess start length kind s = .ok w) :
    s.xfer.queue.length < Config.queueEntries ∧ (s.window w).state = .enabled := by
  unfold checkAccess at h
  split at h
  · cases h
  · next hf =>
    split at h
    · cases h
    · next v hv =>
      have hw : v = w := by
        split at h
        · cases h
        · split at h
          · cases h
          · cases kind with
            | read | write => cases h; rfl
            | swap =>
              dsimp only at h
              split at h <;> cases h
              rfl
      subst hw
      exact ⟨by simpa [queueFull] using hf, ((Window.holds_iff ..).mp (window_holds_of_hit hv)).1⟩

theorem joinQueue_keeps {t : Transfer} {s : State} (hl : s.xfer.queue.length < Config.queueEntries)
    (he : (s.window t.window).state = .enabled) : KeepsTables s (joinQueue t s) := by
  have hj : KeepsTables s (useWindow t.window (setQueue (s.xfer.queue ++ [.transfer t]) s)) := by
    refine .of_pages (by simp) fun h => ?_
    have hw := h.lawful t.window
    refine h.of_set (w := t.window) (r := { s.window t.window with useCount := (s.window t.window).useCount + 1 }) rfl
      ?_ h.failures ⟨fun _ => Nat.succ_pos _, ?_, hw.owed, hw.size, hw.aligned, hw.mapped⟩ ?_ (fun v hv => ?_)
      fun _ => h.apart_of_range ?_ ?_ ?_
    · simpa [setQueue] using hl
    · simp [he]
    · simp [h.uses, usersOf_eq, setQueue]
    · simp [usersOf_eq, setQueue, hv.symm]
    · rfl
    · rfl
    · simp [he]
  unfold joinQueue
  dsimp only
  split
  · exact hj.queueReply ..
  · exact hj

theorem acceptAccess_keeps (r : ReqId) (start : Word) (length : Nat) (kind : XferKind) (s : State) :
    KeepsTables s (acceptAccess r start length kind s) := by
  unfold acceptAccess
  split
  · exact (KeepsTables.refl s).queueReply ..
  · next w hw => exact joinQueue_keeps (checkAccess_ok hw).1 (checkAccess_ok hw).2

theorem accessReadOwner_keeps (p : List Byte) (r : ReqId) (s : State) : KeepsTables s (accessReadOwner p r s) := by
  unfold accessReadOwner
  split
  · exact (KeepsTables.refl s).queueReply ..
  · split
    · exact acceptAccess_keeps ..
    · exact (KeepsTables.refl s).queueReply ..

theorem accessWriteOwner_keeps (p : List Byte) (r : ReqId) (s : State) : KeepsTables s (accessWriteOwner p r s) := by
  unfold accessWriteOwner
  split
  · exact (KeepsTables.refl s).queueReply ..
  · split
    · exact acceptAccess_keeps ..
    · exact (KeepsTables.refl s).queueReply ..

theorem accessSwapOwner_keeps (p : List Byte) (r : ReqId) (s : State) : KeepsTables s (accessSwapOwner p r s) := by
  unfold accessSwapOwner
  split
  · exact (KeepsTables.refl s).queueReply ..
  · exact acceptAccess_keeps ..

/-- A fence joins a queue with room (R52). -/
theorem addFence_keeps {s : State} (hl : s.xfer.queue.length < Config.queueEntries) (r : ReqId) :
    KeepsTables s (setQueue (s.xfer.queue ++ [.fence r]) s) := by
  refine .of_pages (by simp) fun h => h.of_queue (by simp) ?_ (by simpa using h.failures) fun w => ?_
  · simpa [setQueue] using hl
  · simp [usersOf_eq, setQueue]

theorem accessFenceOwner_keeps (p : List Byte) (r : ReqId) (s : State) : KeepsTables s (accessFenceOwner p r s) := by
  unfold accessFenceOwner
  split
  · exact (KeepsTables.refl s).queueReply ..
  · split
    · exact (KeepsTables.refl s).queueReply ..
    · next hf => exact (addFence_keeps (by simpa [queueFull] using hf) r).trans (newHead_keeps _)

theorem abortAt_keeps {s : State} {front rest : List QEntry} {e : QEntry} (hq : s.xfer.queue = front ++ e :: rest)
    (r : ReqId) : KeepsTables s (abortAt front.length e r s) := by
  cases e with
  | transfer x =>
    by_cases hi : front.length = 0 ∧ x.state = .issuing
    · rw [abortAt, if_pos hi]
      rw [List.length_eq_zero_iff.mp hi.1] at hq
      exact setHead_keeps hq _
    · obtain ⟨a, ha⟩ := abortAt_transfer hq hi r
      have hs : KeepsTables s { s with arb := a } := .of_same ⟨rfl, rfl, rfl, rfl⟩
      rw [ha]
      exact (hs.trans (removeTransfer_keeps (by exact hq) ..)).trans (newHead_keeps _)
  | fence f =>
    rw [abortAt_fence hq]
    have hs := ((KeepsTables.refl s).queueReply f .aborted []).queueReply r .ok (countBytes 0)
    exact (hs.trans (removeFence_keeps (by simpa using hq))).trans (newHead_keeps _)

theorem accessAbortOwner_keeps (p : List Byte) (r : ReqId) (s : State) : KeepsTables s (accessAbortOwner p r s) := by
  unfold accessAbortOwner
  split
  · exact (KeepsTables.refl s).queueReply ..
  · split
    · exact (KeepsTables.refl s).queueReply ..
    · split
      · next n _ _ e h =>
        obtain ⟨hn, rfl⟩ := List.getElem?_eq_some_iff.mp h
        have hq : s.xfer.queue = s.xfer.queue.take n ++ s.xfer.queue[n] :: s.xfer.queue.drop (n + 1) := by
          rw [List.cons_getElem_drop_succ, List.take_append_drop]
        have hl : (s.xfer.queue.take n).length = n := by simp [Nat.le_of_lt hn]
        have hk := abortAt_keeps hq r
        rwa [hl] at hk
      · exact (KeepsTables.refl s).queueReply ..

theorem onSlot_keeps {act : SlotId → ReqId → State → State} (h : ∀ i r s, KeepsTables s (act i r s)) (p : List Byte)
    (r : ReqId) (s : State) : KeepsTables s (onSlot p act r s) := by
  unfold onSlot
  split
  · exact (KeepsTables.refl s).queueReply ..
  · split
    · exact (KeepsTables.refl s).queueReply ..
    · exact h ..

theorem enrollSlot_keeps (i : SlotId) (r : ReqId) (s : State) : KeepsTables s (enrollSlot i r s) := by
  unfold enrollSlot
  split
  · exact .of_same (by simp)
  · exact (KeepsTables.refl s).queueReply ..

theorem resetSlot_keeps (i : SlotId) (r : ReqId) (s : State) : KeepsTables s (resetSlot i r s) := by
  unfold resetSlot
  split
  · exact (KeepsTables.refl s).queueReply ..
  · exact ((assertReset_keeps ..).queueReply ..).settle

theorem offSlot_keeps (i : SlotId) (r : ReqId) (s : State) : KeepsTables s (offSlot i r s) := by
  unfold offSlot
  split
  · exact (KeepsTables.refl s).queueReply ..
  · exact ((assertReset_keeps ..).queueReply ..).settle

theorem onSlotAgain_keeps (i : SlotId) (r : ReqId) (s : State) : KeepsTables s (onSlotAgain i r s) := by
  unfold onSlotAgain
  split <;> exact .of_same (by simp)

theorem holdAcquireOwner_keeps (p : List Byte) (r : ReqId) (s : State) :
    KeepsTables s (holdAcquireOwner p r s) := by
  unfold holdAcquireOwner
  (repeat' split) <;> exact .of_same (by simp)

theorem holdCycleOwner_keeps (p : List Byte) (r : ReqId) (s : State) : KeepsTables s (holdCycleOwner p r s) := by
  unfold holdCycleOwner takeCycle
  (repeat' split) <;> exact .of_same (by simp)

theorem holdReleaseOwner_keeps (p : List Byte) (r : ReqId) (s : State) :
    KeepsTables s (holdReleaseOwner p r s) := by
  unfold holdReleaseOwner releaseHold
  (repeat' split) <;> exact .of_same (by simp)

/-! The owners of the inbound engine's, the fault list's, the notice unit's and the link's own requests have no part in
the tables. -/

theorem postCreditOwner_keeps (p : List Byte) (r : ReqId) (s : State) : KeepsTables s (postCreditOwner p r s) := by
  unfold postCreditOwner
  (repeat' split) <;> exact .of_same (by simp)

theorem attentionMaskOwner_keeps (p : List Byte) (r : ReqId) (s : State) :
    KeepsTables s (attentionMaskOwner p r s) := by
  unfold attentionMaskOwner
  (repeat' split) <;> exact .of_same (by simp)

theorem faultReadOwner_keeps (p : List Byte) (r : ReqId) (s : State) : KeepsTables s (faultReadOwner p r s) := by
  unfold faultReadOwner
  (repeat' split) <;> exact .of_same (by simp)

theorem faultClearOwner_keeps (p : List Byte) (r : ReqId) (s : State) : KeepsTables s (faultClearOwner p r s) := by
  unfold faultClearOwner
  (repeat' split) <;> exact .of_same (by simp)

theorem noticeMaskOwner_keeps (p : List Byte) (r : ReqId) (s : State) : KeepsTables s (noticeMaskOwner p r s) := by
  unfold noticeMaskOwner
  (repeat' split) <;> exact .of_same (by simp)

theorem echoOwner_keeps (p : List Byte) (r : ReqId) (s : State) : KeepsTables s (echoOwner p r s) := by
  unfold echoOwner
  (repeat' split) <;> exact .of_same (by simp)

theorem configGetOwner_keeps (p : List Byte) (r : ReqId) (s : State) : KeepsTables s (configGetOwner p r s) := by
  unfold configGetOwner
  (repeat' split) <;> exact .of_same (by simp)

theorem setParams_keeps (p : Params) (s : State) : KeepsTables s (setParams p s) := .of_same ⟨rfl, rfl, rfl, rfl⟩

theorem configSetOwner_keeps (p : List Byte) (r : ReqId) (s : State) : KeepsTables s (configSetOwner p r s) := by
  unfold configSetOwner
  split
  · exact (KeepsTables.refl s).queueReply ..
  · split
    · exact (KeepsTables.refl s).queueReply ..
    · exact (setParams_keeps ..).queueReply ..

theorem bridgeResetOwner_keeps (p : List Byte) (r : ReqId) (s : State) : KeepsTables s (bridgeResetOwner p r s) := by
  unfold bridgeResetOwner
  (repeat' split) <;> exact .of_same (by simp)

end Sys2Proof.Machine

/-! ## The laws of the tables: every command -/

namespace Sys2Proof.Machine

set_option Elab.async false

/-! ### Every owner, and the receipt of a request (R168, R170) -/

theorem ite_keeps {c : Prop} [Decidable c] {f g : ReqId → State → State} (hf : ∀ r s, KeepsTables s (f r s))
    (hg : ∀ r s, KeepsTables s (g r s)) : ∀ r s, KeepsTables s ((if c then f else g) r s) := by
  split <;> assumption

theorem ownerOf_keeps (kind : Byte) (p : List Byte) : ∀ r s, KeepsTables s (ownerOf kind p r s) := by
  refine ite_keeps (windowSetOwner_keeps p) ?_
  refine ite_keeps (windowClearOwner_keeps p) ?_
  refine ite_keeps (windowGetOwner_keeps p) ?_
  refine ite_keeps (pageWriteOwner_keeps p) ?_
  refine ite_keeps (pageReadOwner_keeps p) ?_
  refine ite_keeps (pageSweepOwner_keeps p) ?_
  refine ite_keeps (fun r s => (accessReadOwner_keeps p r s).settle) ?_
  refine ite_keeps (fun r s => (accessWriteOwner_keeps p r s).settle) ?_
  refine ite_keeps (fun r s => (accessSwapOwner_keeps p r s).settle) ?_
  refine ite_keeps (fun r s => (accessFenceOwner_keeps p r s).settle) ?_
  refine ite_keeps (fun r s => (accessAbortOwner_keeps p r s).settle) ?_
  refine ite_keeps (onSlot_keeps (fun i r s => (KeepsTables.refl s).queueReply ..) p) ?_
  refine ite_keeps (onSlot_keeps enrollSlot_keeps p) ?_
  refine ite_keeps (onSlot_keeps resetSlot_keeps p) ?_
  refine ite_keeps (onSlot_keeps offSlot_keeps p) ?_
  refine ite_keeps (onSlot_keeps onSlotAgain_keeps p) ?_
  refine ite_keeps (fun r s => (holdAcquireOwner_keeps p r s).settle) ?_
  refine ite_keeps (holdCycleOwner_keeps p) ?_
  refine ite_keeps (fun r s => (holdReleaseOwner_keeps p r s).settle) ?_
  refine ite_keeps (postCreditOwner_keeps p) ?_
  refine ite_keeps (attentionMaskOwner_keeps p) ?_
  refine ite_keeps (faultReadOwner_keeps p) ?_
  refine ite_keeps (faultClearOwner_keeps p) ?_
  refine ite_keeps (noticeMaskOwner_keeps p) ?_
  refine ite_keeps (echoOwner_keeps p) ?_
  refine ite_keeps (configGetOwner_keeps p) ?_
  refine ite_keeps (configSetOwner_keeps p) ?_
  refine ite_keeps (bridgeResetOwner_keeps p) ?_
  exact fun r s => (KeepsTables.refl s).queueReply ..

theorem handOn_keeps (kind seq : Byte) (payload : List Byte) (s : State) :
    KeepsTables s (handOn kind seq payload (ownerOf kind payload) s) := by
  have hl : ∀ l : Link, KeepsTables s { s with link := l } := fun _ => .of_same ⟨rfl, rfl, rfl, rfl⟩
  unfold handOn
  dsimp only
  split
  · exact .refl s
  · exact hl _
  · exact hl _
  · exact (hl _).trans (ownerOf_keeps ..)

/-! ### Resets and breaks (R61, R177, R178) -/

/-- The taking of a bridge reset leaves the tables as at power-on. -/
theorem takeReset_keeps (s : State) : KeepsTables s (takeReset s) := .of_reset rfl rfl rfl rfl

theorem beginBreak_keeps (s : State) : KeepsTables s (beginBreak s) := by
  unfold beginBreak
  dsimp only
  split
  · exact .trans (.of_same (by simp)) (takeReset_keeps _)
  · exact .of_same (by simp)

theorem replySent_keeps (r : Reply) (s : State) : KeepsTables s (replySent r s) := by
  have hl : ∀ l : Link, KeepsTables s { s with link := l } := fun _ => .of_same ⟨rfl, rfl, rfl, rfl⟩
  unfold replySent
  dsimp only
  split
  · exact .refl s
  · split
    · exact (hl _).trans (takeReset_keeps _)
    · exact hl _

/-! ### The receive line (R165, R166, R168) -/

section Line

variable {s₀ : State}

theorem withFramer_keepsFrom (f : Framer) (s : State) (h : KeepsTables s₀ s) : KeepsTables s₀ (s.withFramer f) :=
  h.trans (.of_same ⟨rfl, rfl, rfl, rfl⟩)

theorem passOn_keepsFrom (q : RxRequest) (s : State) (h : KeepsTables s₀ s) : KeepsTables s₀ (passOn q s) :=
  h.trans (handOn_keeps ..)

theorem withLowRun_keepsFrom (run : Nat) (s : State) (h : KeepsTables s₀ s) (_ : s.link.phase ≠ .brk)
    (_ : run < Config.breakTimes) : KeepsTables s₀ (s.withLowRun run) :=
  h.trans (.of_same ⟨rfl, rfl, rfl, rfl⟩)

theorem beginBreak_keepsFrom (s : State) (h : KeepsTables s₀ s) (_ : s.link.phase ≠ .brk) :
    KeepsTables s₀ (settle (beginBreak s)) :=
  h.trans (beginBreak_keeps s).settle

theorem endBreak_keepsFrom (s : State) (h : KeepsTables s₀ s) (_ : s.link.phase = .brk) :
    KeepsTables s₀ (endBreak s) :=
  h.trans (.of_same ⟨rfl, rfl, rfl, rfl⟩)

end Line

theorem hearLevels_keepsTables (cs : List LineChar) (heard : List RxChar) (s : State) :
    KeepsTables s (hearLevels cs heard s) :=
  hearLevels_keeps (P := KeepsTables s) withFramer_keepsFrom passOn_keepsFrom withLowRun_keepsFrom beginBreak_keepsFrom
    endBreak_keepsFrom cs heard (.refl s)

theorem onRequest_keepsTables (kind seq : Byte) (payload : List Byte) (s : State) :
    KeepsTables s (onRequest kind seq payload (ownerOf kind payload) s) :=
  onRequest_keeps (P := KeepsTables s) withFramer_keepsFrom passOn_keepsFrom withLowRun_keepsFrom beginBreak_keepsFrom
    endBreak_keepsFrom (fun _ h => h.trans (handOn_keeps ..)) (.refl s)

/-! ### Every command -/

/-- What an outcome leads on to keeps the tables' laws. -/
def KeepsTablesOut (s : State) (o : Host.Outcome State Fault Refusal) : Prop :=
  ∀ t, o = .next t → KeepsTables s t

theorem KeepsTablesOut.next {s t : State} (h : KeepsTables s t) : KeepsTablesOut s (.next t) := by
  rintro _ ⟨⟩
  exact h

theorem execFrameSent_keeps (s : State) : KeepsTablesOut s (execFrameSent s) := by
  have hl : KeepsTables s { s with link := { s.link with transmitter := none } } := .of_same ⟨rfl, rfl, rfl, rfl⟩
  refine .next ?_
  split
  · exact .refl s
  · refine KeepsTables.settle (hl.trans ?_)
    split
    · exact replySent_keeps ..
    · exact .of_same (by simp)
    · exact .refl _

theorem execTransferGrant_keeps (s : State) : KeepsTablesOut s (execTransferGrant s) := by
  refine .next ?_
  split
  · refine KeepsTables.settle (.trans (t := takeGrant .transfer s) (.of_same (by simp)) ?_)
    split
    · next hq => exact issueHead_keeps hq
    · exact (KeepsTables.refl _).returnGrant
  · exact .refl s

theorem execSuperviseGrant_keeps (s : State) : KeepsTablesOut s (execSuperviseGrant s) := by
  refine .next ?_
  split
  · refine KeepsTables.settle (.trans (t := takeGrant .supervise s) (.of_same (by simp)) ?_)
    split
    · next w rest _ =>
      have hw : KeepsTables (takeGrant .supervise s)
          { takeGrant .supervise s with sup := { (takeGrant .supervise s).sup with work := rest } } :=
        .of_same ⟨rfl, rfl, rfl, rfl⟩
      dsimp only
      split
      · exact hw.trans (beginTx_keeps ..)
      · exact hw.returnGrant
    · exact (KeepsTables.refl _).returnGrant
  · exact .refl s

theorem execInboundGrant_keeps (s : State) : KeepsTablesOut s (execInboundGrant s) := by
  refine .next ?_
  split
  · refine KeepsTables.settle (.trans (t := takeGrant .inbound s) (.of_same (by simp)) ?_)
    split
    · split
      · exact .trans (.of_same (by simp)) (beginTx_keeps ..)
      · exact (KeepsTables.refl _).returnGrant
    · split
      · exact beginTx_keeps ..
      · exact .of_same (by simp)
  · exact .refl s

theorem execResponseCodeArrives_keeps (code : ResponseCode) (good : Bool) (s : State) :
    KeepsTablesOut s (execResponseCodeArrives code good s) := by
  refine .next ?_
  split
  · split
    · refine KeepsTables.settle ?_
      split
      · exact .of_same (by simp)
      · refine .trans (.of_same ?_) (finishTx_keeps ..)
        split <;> simp
    · exact .refl s
  · exact .refl s

theorem execReadDataWordArrives_keeps (word : Word) (parity : BitVec 4) (s : State) :
    KeepsTablesOut s (execReadDataWordArrives word parity s) := by
  refine .next ?_
  split
  · split
    · refine KeepsTables.settle ?_
      split
      · exact .of_same (by simp)
      · split
        · exact .trans (.of_same (by simp)) (finishTx_keeps ..)
        · exact .trans (.of_same (by simp)) (finishTx_keeps ..)
    · exact .refl s
  · exact .refl s

theorem execResponseTimerExpiry_keeps (s : State) : KeepsTablesOut s (execResponseTimerExpiry s) := by
  refine .next ?_
  split
  · split
    · refine KeepsTables.settle (.trans (.of_same ?_) (finishTx_keeps ..))
      split <;> simp
    · exact .refl s
  · exact .refl s

theorem execRetryDelayExpiry_keeps (s : State) : KeepsTablesOut s (execRetryDelayExpiry s) := by
  refine .next ?_
  split
  · next hq =>
    split
    · exact (setHead_keeps hq _).settle
    · exact .refl s
  · exact .refl s

theorem execSwapResendDelayExpiry_keeps (s : State) : KeepsTablesOut s (execSwapResendDelayExpiry s) := by
  refine .next ?_
  split
  · split
    · exact (sendSecond_keeps ..).settle
    · exact .refl s
  · exact .refl s

theorem execPresenceActive_keeps (i : SlotId) (s : State) : KeepsTablesOut s (execPresenceActive i s) := by
  have hp : KeepsTables s (setPresence i true s) := .of_same ⟨rfl, rfl, rfl, rfl⟩
  refine .next ?_
  dsimp only
  split
  · exact .refl s
  · split
    · exact hp.trans (.of_same (by simp))
    · exact hp

theorem execPresenceInactive_keeps (i : SlotId) (s : State) : KeepsTablesOut s (execPresenceInactive i s) := by
  refine .next ?_
  split
  · exact (KeepsTables.trans (.of_same (by simp [setPresence])) (slotLost_keeps ..)).settle
  · exact .refl s

/-- In a lawful state no drain is due: WINDOW_DRAIN_END finds nothing left to do (R15, log 5). -/
theorem execWindowDrainEnd_keeps (w : WindowId) (s : State) : KeepsTablesOut s (execWindowDrainEnd w s) := by
  refine .next (.of_pages (by simp) fun h => ?_)
  rw [drainEnd_of_not_due]
  · exact h
  · rintro ⟨hc, hu⟩
    exact Nat.ne_of_gt (h.closing w hc) hu

/-- Every command keeps the laws of the window table and the page map. -/
theorem exec_keepsTables (c : Instr) (s : State) : KeepsTablesOut s (exec c s) := by
  cases hr : c.request with
  | some q =>
    obtain ⟨kind, seq, payload⟩ := q
    rw [exec_request hr]
    refine .next ?_
    split
    · exact onRequest_keepsTables ..
    · exact .refl s
  | none =>
    cases c with
    | powerOn pins => exact .next (.of_reset rfl rfl rfl rfl)
    | breakBegin =>
      refine .next ?_
      split
      · exact .refl s
      · exact (beginBreak_keeps s).settle
    | frameDiscard chars => exact .next (hearLevels_keepsTables ..)
    | frameSent => exact execFrameSent_keeps s
    | transferGrant => exact execTransferGrant_keeps s
    | superviseGrant => exact execSuperviseGrant_keeps s
    | inboundGrant => exact execInboundGrant_keeps s
    | responseCodeArrives code good => exact execResponseCodeArrives_keeps code good s
    | readDataWordArrives word parity => exact execReadDataWordArrives_keeps word parity s
    | responseTimerExpiry => exact execResponseTimerExpiry_keeps s
    | retryDelayExpiry => exact execRetryDelayExpiry_keeps s
    | swapResendDelayExpiry => exact execSwapResendDelayExpiry_keeps s
    | presenceInactive i => exact execPresenceInactive_keeps i s
    | windowDrainEnd w => exact execWindowDrainEnd_keeps w s
    | fenceAtHead => exact .next (newHead_keeps s).settle
    | breakEnd => exact .next (by split; exacts [.of_same ⟨rfl, rfl, rfl, rfl⟩, .refl s])
    | outputFrameBegin => exact .next (by split; exacts [.of_same (by simp), .refl s])
    | bridgeResetComplete => exact .next (by split; exacts [.of_same (by simp), .refl s])
    | holdGrant => exact .next (by split; exacts [.of_same (by simp), .refl s])
    | settleTimerExpiry i => exact .next (by (repeat' split) <;> exact .of_same (by simp))
    | attemptGapExpiry i => exact .next (by split; exacts [.of_same (by simp), .refl s])
    | checkTimerExpiry i => exact .next (by split; exacts [.of_same (by simp), .refl s])
    | pulseTimerExpiry i => exact .next (by split; exacts [.of_same (by simp), .refl s])
    | limitTimerExpiry => exact .next (by split; exacts [.of_same (by simp), .refl s])
    | backOffExpiry i => exact .next (by split; exacts [.of_same (by simp), .refl s])
    | stampTick => exact .next (.of_same ⟨rfl, rfl, rfl, rfl⟩)
    | presenceActive i => exact execPresenceActive_keeps i s
    | attentionChange i level => exact .next (.of_same ⟨rfl, rfl, rfl, rfl⟩)
    | holdEnds => exact .next (by split; exacts [.refl s, .of_same (by simp)])
    | requestDriven => exact .next (by (repeat' split) <;> exact .of_same (by simp))
    | _ => cases hr

/-- Settles O54: a step runs the front command, and every command keeps both laws. -/
theorem windowAndPageLawsKept : Obligations.WindowAndPageLawsKept := by
  intro s t h
  have hk : KeepsTables s t := by
    unfold step at h
    split at h
    · next c rest _ =>
      have hp : KeepsTables s { s with pending := rest } := .of_same ⟨rfl, rfl, rfl, rfl⟩
      exact hp.trans (exec_keepsTables c _ t h)
    · cases h
      exact .refl s
  exact ⟨hk.windows, hk.pages⟩

end Sys2Proof.Machine

/-! ## ACCESS_ABORT -/

namespace Sys2Proof.Machine

set_option Elab.async false

/-! ### The arbiter after an abort (R42, R74) -/

theorem headQueued_iff (s : State) :
    headQueued s = true ↔ ∃ y more, s.xfer.queue = .transfer y :: more ∧ y.state = .queued := by
  unfold headQueued
  split
  · next y more hq => simp [hq]
  · next hq =>
    simp only [Bool.false_eq_true, false_iff, not_exists, not_and]
    exact fun y more h _ => hq y more h

theorem standingChoice_waits {holder choice : Option Requester} {w : Waiting} {turn n : Nat} {r : Requester}
    (h : standingChoice holder choice w turn n = some r) : w.has r = true := by
  unfold standingChoice at h
  split at h
  · cases h
  · split at h
    · split at h
      · next hw => cases h; exact hw
      · exact choose_waits h
    · exact choose_waits h

/-- The arbiter's choice falls on TRANSFER only while the head of the queue is a QUEUED transfer. -/
theorem headQueued_of_settle_choice {s : State} (h : (settle s).arb.choice = some .transfer) :
    headQueued s = true := by
  have hw : (wanted s).has .transfer = true := standingChoice_waits h
  unfold wanted at hw
  split at hw
  · cases hw
  · simp only [Waiting.has, Bool.and_eq_true] at hw
    exact hw.1

/-! ### ACCESS_ABORT of an accepted request (R53) -/

section Found

variable {q : Byte} {front rest : List QEntry} {s : State}

theorem exec_abort_found {seq : Byte} {e : QEntry} (ha : Accepts Kind.accessAbort seq [q] s)
    (hq : s.xfer.queue = front ++ e :: rest) (hf : ∀ e ∈ front, e.seq ≠ q) (he : e.seq = q) :
    exec (.accessAbort seq [q]) s = .next (settle (abortAt front.length e (reqId Kind.accessAbort seq [q] s)
      (s.accepted Kind.accessAbort seq [q]))) := by
  rw [← accessAbortOwner_of_found (by exact hq) hf he]
  exact exec_of_accepts rfl rfl ha

/-- The replies of an abort that removes a transfer, for the request that the link has just accepted. -/
theorem abortAnswers_accepted {x : Transfer} (hx : x.req.seq = q) (seq : Byte) (s : State) :
    x.abortAnswers (reqId Kind.accessAbort seq [q] s) s.link.session =
      (if x.posted = false ∧ x.req.session = s.link.session then
        [{ seq := q, kind := x.req.kind, crc := x.req.crc, status := .aborted, resend := false
           body := x.replyBody .aborted {} }] else []) ++
      [{ seq := seq, kind := Kind.accessAbort, crc := (requestFrame Kind.accessAbort seq [q]).crc, status := .ok
         body := countBytes x.completed, resend := false }] := by
  simp [Transfer.abortAnswers, ReqId.reply, hx, reqId]

/-- R53 to R55: an abort that removes a transfer, up to the arbiter's fields. -/
theorem exec_abort_transfer {seq : Byte} {x : Transfer} (ha : Accepts Kind.accessAbort seq [q] s)
    (hq : s.xfer.queue = front ++ .transfer x :: rest) (hf : ∀ e ∈ front, e.seq ≠ q) (hx : x.req.seq = q)
    (hi : front = [] → x.state ≠ .issuing) :
    ∃ a, exec (.accessAbort seq [q]) s = .next (settle (newHead (setQueue (front ++ rest) (releaseWindow x.window
      { s with arb := a, link := { (s.accepted Kind.accessAbort seq [q]).link with
        replies := s.link.replies ++ x.abortAnswers (reqId Kind.accessAbort seq [q] s) s.link.session } })))) := by
  obtain ⟨a, h⟩ := abortAt_transfer (s := s.accepted Kind.accessAbort seq [q]) hq
    (fun h => hi (List.length_eq_zero_iff.mp h.1) h.2) (reqId Kind.accessAbort seq [q] s)
  rw [answerTransfer_aborted] at h
  exact ⟨a, (exec_abort_found ha hq hf hx).trans (congrArg (fun u => Host.Outcome.next (settle u)) h)⟩

end Found

/-- A fence that has become the head, with no fence behind it, is answered and leaves (R52). -/
theorem newHead_of_fence {r : ReqId} {more : List QEntry} {s : State} (hq : s.xfer.queue = .fence r :: more)
    (hm : ∀ r, more.head? ≠ some (.fence r)) : newHead s = answerFence r (setQueue more s) := by
  rw [newHead, hq, fencesAtHead, fencesAtHead_of_no_fence hm]

/-- Settles O16: the entry is found by its place in the queue, and what its removal brings is what the release of its
window and the new head bring. -/
theorem abort : Obligations.Abort := by
  refine ⟨fun seq payload s ha => ?_, fun seq q s ha => ⟨fun x rest hq hx hi => ?_, fun front rest r hq hf hr hn => ?_,
    fun front rest x answers hq hf hx hi hans => ?_⟩⟩
  · have hx : exec (.accessAbort seq payload) s = .next (settle (accessAbortOwner payload
        (reqId Kind.accessAbort seq payload s) (s.accepted Kind.accessAbort seq payload))) :=
      exec_of_accepts rfl rfl ha
    rw [hx]
    refine ⟨fun hp => ?_, fun q hp hne => ?_⟩
    · simp [accessAbortOwner, parseByte_eq_none hp]
    · subst hp
      have hn : s.xfer.queue.findIdx? (fun e => decide (e.seq = q)) = none := by
        simpa [List.findIdx?_eq_none_iff] using hne
      simp [accessAbortOwner, parseByte_singleton, hn]
  · rw [exec_abort_found (front := []) (e := .transfer x) ha hq (by simp) hx]
    simp only [abortAt, List.length_nil, hi, and_self, if_true, setHead, accepted_frame, hq]
    rfl
  · rw [exec_abort_found (e := .fence r) ha hq hf hr, abortAt_fence (by exact hq), newHead_of_no_fence (by exact hn)]
    simp only [queueReply_eq]
    simp [ReqId.reply, hr, reqId]
    rfl
  · obtain ⟨a, he⟩ := exec_abort_transfer ha hq hf hx hi
    rw [abortAnswers_accepted hx, ← hans] at he
    refine ⟨fun hn hw => ?_, fun c hn hw hu hr => ?_, fun r more hfront hrest hmore hw => ?_⟩
    · rw [releaseWindow_of_open (by exact fun h => nomatch hw.symm.trans h), newHead_of_no_fence (by exact hn)] at he
      exact ⟨_, he, rfl, rfl, fun hc => (headQueued_iff _).mp (headQueued_of_settle_choice hc)⟩
    · rw [releaseWindow_of_last_owed (by exact hw) (by exact hu) (by exact hr), queueReply_eq,
        newHead_of_no_fence (by exact hn)] at he
      exact ⟨_, he, rfl, rfl⟩
    · subst hfront hrest
      rw [releaseWindow_of_open (by exact fun h => nomatch hw.symm.trans h), newHead_of_fence (by rfl) hmore,
        answerFence, queueReply_eq] at he
      exact ⟨_, he, rfl, rfl⟩

end Sys2Proof.Machine

/-! ## The page requests: the rules

What the bytes of a page request stand for, and what writing or clearing consecutive entries leaves of the page map. -/

namespace Sys2Proof.Machine

set_option Elab.async false

/-! ### The fields of the page requests (R28, R30, R31) -/

theorem parsePageSets_length {p : List Byte} {sets : List PageSet} (h : parsePageSets p = some sets) :
    p.length = 5 * sets.length := by
  induction p using parsePageSets.induct generalizing sets with
  | case1 =>
    cases h
    rfl
  | case2 v a sl f0 f1 rest ih =>
    obtain ⟨ps, hps, rfl⟩ := Option.map_eq_some_iff.mp h
    have := ih hps
    simp only [List.length_cons]
    omega
  | case3 p hnil hcons =>
    rw [parsePageSets.eq_3 p hnil hcons] at h
    cases h

/-- A PAGE_WRITE payload that fits holds exactly the sets its count byte announces. -/
theorem parsePageWrite_length {p : List Byte} {x : Nat × List PageSet} (h : parsePageWrite p = some x) :
    3 ≤ p.length ∧ p.length = 3 + 5 * (byteAt p 2).toNat := by
  match p with
  | [] | [_] | [_, _] => cases h
  | f0 :: f1 :: c :: rest =>
    simp only [parsePageWrite] at h
    split at h
    · next sets hsets =>
      split at h
      · next hc =>
        have hl := parsePageSets_length hsets
        have hb : byteAt (f0 :: f1 :: c :: rest) 2 = c := rfl
        simp only [hb, List.length_cons]
        omega
      · cases h
    · cases h

theorem parsePageWrite_eq_none {p : List Byte} (h : p.length < 3 ∨ p.length ≠ 3 + 5 * (byteAt p 2).toNat) :
    parsePageWrite p = none := by
  cases hp : parsePageWrite p with
  | none => rfl
  | some x =>
    have := parsePageWrite_length hp
    omega

theorem parsePageRead_eq_none {p : List Byte} (h : p.length ≠ 3) : parsePageRead p = none := by
  match p with
  | [] | [_] | [_, _] | _ :: _ :: _ :: _ :: _ => rfl
  | [_, _, _] => exact absurd rfl h

theorem parsePageSweep_eq_none {p : List Byte} (h : p.length ≠ 4) : parsePageSweep p = none := by
  match p with
  | [] | [_] | [_, _] | [_, _, _] | _ :: _ :: _ :: _ :: _ :: _ => rfl
  | [_, _, _, _] => exact absurd rfl h

theorem pageRangeGood_iff {first count most : Nat} :
    pageRangeGood first count most = true ↔ 1 ≤ count ∧ count ≤ most ∧ first + count - 1 ≤ 2047 := by
  simp [pageRangeGood, and_assoc]

/-! ### The sets of values of PAGE_WRITE (R28, R29) -/

theorem validOfCode_eq_some {b : Byte} {v : Bool} : validOfCode b = some v ↔ b.toNat ≤ 1 ∧ v = decide (b = 1) := by
  rw [byte_le_one, validOfCode]
  by_cases h0 : b = 0#8
  · simp [h0, eq_comm]
  · by_cases h1 : b = 1#8
    · simp [h1]
    · simp [h0, h1]

theorem PageSet.entry_of_good {p : PageSet} (h : p.Good) : p.entry = some p.taken := by
  have hv := validOfCode_eq_some.mpr ⟨h.valid, rfl⟩
  have ha := Access.ofCode_eq_some.mpr ⟨h.access, rfl⟩
  have hf : p.frame.setWidth 12 = BitVec.ofNat 12 p.frame.toNat := by simp
  simp only [PageSet.entry, hv, ha, slotOfByte_eq_some h.slot, if_pos h.frame, PageSet.taken, hf]

theorem PageSet.good_of_entry {p : PageSet} {e : PageEntry} (h : p.entry = some e) : p.Good := by
  unfold PageSet.entry at h
  split at h
  · next v a sl hv ha hsl =>
    split at h
    · next hf => exact ⟨(validOfCode_eq_some.mp hv).1, (Access.ofCode_eq_some.mp ha).1, slotOfByte_isSome hsl, hf⟩
    · cases h
  · cases h

theorem pageEntriesOf_of_good {ps : List PageSet} (h : ∀ p ∈ ps, p.Good) :
    pageEntriesOf ps = some (ps.map PageSet.taken) := by
  induction ps with
  | nil => rfl
  | cons p ps ih =>
    obtain ⟨hp, hps⟩ := List.forall_mem_cons.mp h
    simp only [pageEntriesOf, PageSet.entry_of_good hp, ih hps, List.map_cons]

theorem good_of_pageEntriesOf {ps : List PageSet} {es : List PageEntry} (h : pageEntriesOf ps = some es) :
    ∀ p ∈ ps, p.Good := by
  induction ps generalizing es with
  | nil => simp
  | cons p ps ih =>
    unfold pageEntriesOf at h
    split at h
    · next he hes => exact List.forall_mem_cons.mpr ⟨PageSet.good_of_entry he, ih hes⟩
    · cases h

/-- One bad set spoils the whole request. -/
theorem pageEntriesOf_eq_none {ps : List PageSet} (h : ∃ p ∈ ps, ¬p.Good) : pageEntriesOf ps = none := by
  obtain ⟨p, hp, hbad⟩ := h
  cases he : pageEntriesOf ps with
  | none => rfl
  | some es => exact absurd (good_of_pageEntriesOf he p hp) hbad

/-! ### Consecutive entries of the page map (R29, R31) -/

theorem writePages_eq (first : Nat) (es : List PageEntry) (s : State) :
    writePages first es s = { s with pages := (writePages first es s).pages } := by
  induction es generalizing first s with
  | nil => rfl
  | cons e es ih => exact ih (first + 1) (s.setPage first e)

theorem writePages_page_of_outside {first i : Nat} {es : List PageEntry} (h : i < first ∨ first + es.length ≤ i)
    (s : State) : (writePages first es s).page i = s.page i := by
  induction es generalizing first s with
  | nil => rfl
  | cons e es ih =>
    simp only [List.length_cons] at h
    rw [writePages, ih (by omega), setPage_page_of_ne _ _ (by omega)]

/-- Entry `first + k` takes value `k`, where the map reaches as far. -/
theorem writePages_page {first k : Nat} {es : List PageEntry} {e : PageEntry} (h : es[k]? = some e)
    (hk : first + k < 2048) (s : State) : (writePages first es s).page (first + k) = e := by
  induction es generalizing first k s with
  | nil => cases h
  | cons d es ih =>
    cases k with
    | zero =>
      cases h
      rw [writePages, writePages_page_of_outside (by omega), Nat.add_zero, setPage_page_self _ _ (by omega)]
    | succ k =>
      have := ih (first := first + 1) (k := k) h (by omega) (s.setPage first d)
      rwa [show first + 1 + k = first + (k + 1) by omega] at this

theorem clearPages_eq (first count : Nat) (s : State) :
    clearPages first count s = { s with pages := (clearPages first count s).pages } := by
  induction count generalizing first s with
  | zero => rfl
  | succ n ih => exact ih (first + 1) (s.setPage first (s.page first).cleared)

theorem clearPages_page_of_outside {first count i : Nat} (h : i < first ∨ first + count ≤ i) (s : State) :
    (clearPages first count s).page i = s.page i := by
  induction count generalizing first s with
  | zero => rfl
  | succ n ih => rw [clearPages, ih (by omega), setPage_page_of_ne _ _ (by omega)]

theorem clearPages_page {first count i : Nat} (hf : first ≤ i) (hl : i < first + count) (hi : i < 2048) (s : State) :
    (clearPages first count s).page i = (s.page i).cleared := by
  induction count generalizing first s with
  | zero => omega
  | succ n ih =>
    rw [clearPages]
    by_cases h : first = i
    · subst h
      rw [clearPages_page_of_outside (by omega), setPage_page_self _ _ hi]
    · rw [ih (by omega) (by omega), setPage_page_of_ne _ _ h]

/-- Whether the page map is written before or after a reply is queued makes no difference. -/
theorem queueReply_withPages (r : ReqId) (st : Status) (body : List Byte) (v : Vector PageEntry 2048) (s : State) :
    queueReply r st body { s with pages := v } = { queueReply r st body s with pages := v } := by
  rw [queueReply_eq, queueReply_eq]

end Sys2Proof.Machine

/-! ## PAGE_WRITE, PAGE_READ and PAGE_SWEEP -/

namespace Sys2Proof.Machine

set_option Elab.async false

/-- Settles O11, check by check in the order of R28; the entries of a request that passes by the rules of
`writePages`. -/
theorem pageWrite : Obligations.PageWrite := by
  intro seq payload s ha
  have hx : exec (.pageWrite seq payload) s = .next (pageWriteOwner payload (reqId Kind.pageWrite seq payload s)
      (s.accepted Kind.pageWrite seq payload)) := exec_of_accepts rfl rfl ha
  simp only [hx, pageWriteOwner]
  refine ⟨fun hp => ?_, fun first sets hp => ⟨fun hbad => ?_, fun hmin hmax hend hgood => ?_⟩⟩
  · simp [parsePageWrite_eq_none hp]
  · simp only [hp]
    by_cases hr : pageRangeGood first sets.length 64 = true
    · have hset : ∃ p ∈ sets, ¬p.Good := by
        have := pageRangeGood_iff.mp hr
        rcases hbad with h | h | h | h
        iterate 3 omega
        exact h
      rw [if_pos hr, pageEntriesOf_eq_none hset]
      simp
    · rw [if_neg hr, queueReply_accepted]
  · simp only [hp, if_pos (pageRangeGood_iff.mpr ⟨hmin, hmax, hend⟩), pageEntriesOf_of_good hgood]
    rw [writePages_eq, queueReply_withPages, queueReply_accepted]
    refine ⟨_, rfl, rfl, fun k p hk => ?_, fun i hi => ?_⟩
    · have hlt : k < sets.length := (List.getElem?_eq_some_iff.mp hk).1
      exact writePages_page (by simp [hk]) (by omega) _
    · exact writePages_page_of_outside (by simpa using hi) _

/-- Settles O12: each request by its payload, its range, and what its owner then returns and clears. -/
theorem pageReadAndSweep : Obligations.PageReadAndSweep := by
  refine fun seq payload s => ⟨fun ha => ?_, fun ha => ?_⟩
  · have hx : exec (.pageRead seq payload) s = .next (pageReadOwner payload (reqId Kind.pageRead seq payload s)
        (s.accepted Kind.pageRead seq payload)) := exec_of_accepts rfl rfl ha
    simp only [hx, pageReadOwner]
    refine ⟨fun hp => ?_, fun first count hp => ⟨fun hbad => ?_, fun hmin hmax hend => ?_⟩⟩
    · simp [parsePageRead_eq_none hp]
    · simp only [hp]
      rw [if_neg (by rw [pageRangeGood_iff]; omega), queueReply_accepted]
    · simp only [hp, if_pos (pageRangeGood_iff.mpr ⟨hmin, hmax, hend⟩), queueReply_accepted, readPages,
        List.flatMap_map]
      rfl
  · have hx : exec (.pageSweep seq payload) s = .next (pageSweepOwner payload (reqId Kind.pageSweep seq payload s)
        (s.accepted Kind.pageSweep seq payload)) := exec_of_accepts rfl rfl ha
    simp only [hx, pageSweepOwner]
    refine ⟨fun hp => ?_, fun first count hp => ⟨fun hbad => ?_, fun hmin hmax hend => ?_⟩⟩
    · simp [parsePageSweep_eq_none hp]
    · simp only [hp]
      rw [if_neg (by rw [pageRangeGood_iff]; omega), queueReply_accepted]
    · simp only [hp, if_pos (pageRangeGood_iff.mpr ⟨hmin, hmax, hend⟩), readPages, List.map_map]
      rw [clearPages_eq, queueReply_withPages, queueReply_accepted]
      exact ⟨_, rfl, rfl, fun i hf hl => clearPages_page hf hl (by omega) _,
        fun i hi => clearPages_page_of_outside hi _⟩

end Sys2Proof.Machine

/-! ## The locked pair: the rules

How a second half starts, what each result does to the pair, and how the swap leaves the queue with it. -/

namespace Sys2Proof.Machine

set_option Elab.async false

/-! ### The start of a second half (R25, R57, R58, R65) -/

/-- The state in which a pair's second half is started: the page map as R25 leaves it, and the pair in its second half
(`sendSecond_ready`, `sendSecond_absent`). -/
def Pair.sent (p : Pair) (s : State) : State :=
  { s with
    pages := (markPage (p.writtenEntry s) false true s).pages
    xfer := { s.xfer with pair := some { p with stage := .second } } }

/-- The second half on the backplane: its own data, and the phase and timer that R66 and R68 give its command. -/
def Pair.secondTx (p : Pair) (timeout : Nat) : Tx :=
  { p.secondHalf with
    phase := if p.matches then .request else .wait
    timer := if p.matches then none else some timeout }

theorem Pair.matches_iff (p : Pair) : p.matches = true ↔ p.old = some p.compare := by
  simp [Pair.matches]

theorem Pair.secondTx_of_match {p : Pair} (h : p.old = some p.compare) (timeout : Nat) :
    p.secondTx timeout =
      { requester := .transfer, command := .unlockWrite, slot := p.slot, addr := p.addr, count := 4
        writeData := bytes32 p.new, phase := .request, timer := none } := by
  simp [Pair.secondTx, Pair.secondHalf, p.matches_iff.mpr h]

theorem Pair.secondTx_of_mismatch {p : Pair} (h : p.old ≠ some p.compare) (timeout : Nat) :
    p.secondTx timeout =
      { requester := .transfer, command := .unlock, slot := p.slot, addr := p.addr, count := 4, writeData := []
        phase := .wait, timer := some timeout } := by
  have hm : p.matches = false := by rw [Bool.eq_false_iff, Ne, p.matches_iff]; exact h
  simp [Pair.secondTx, Pair.secondHalf, hm]

/-- R25: an UNLOCK_WRITE whose pair names a VALID entry of the map marks that entry written and no other. -/
theorem Pair.sent_page {p : Pair} {s : State} {i : Nat} (hm : p.old = some p.compare) (he : p.entry = some i)
    (hi : i < 2048) (hv : (s.page i).valid = true) :
    (p.sent s).page i = { s.page i with written := true } ∧ ∀ j, j ≠ i → (p.sent s).page j = s.page j := by
  have hp : ∀ j, (p.sent s).page j = (s.setPage i { s.page i with written := true }).page j := fun j => by
    rw [← markPage_writtenEntry_of_valid hm he hv]
    rfl
  exact ⟨by rw [hp, setPage_page_self _ _ hi], fun j hj => by rw [hp, setPage_page_of_ne _ _ hj.symm]⟩

/-- R25: every other start leaves the page map as it is. -/
theorem Pair.sent_pages {p : Pair} {s : State}
    (h : p.old ≠ some p.compare ∨ ∀ i, p.entry = some i → (s.page i).valid = false) : (p.sent s).pages = s.pages := by
  rw [Pair.sent, markPage_writtenEntry_of_none h]

theorem sendSecond_ready {p : Pair} {s : State} (hr : s.resetLine p.slot = false) (hp : s.present p.slot = true) :
    sendSecond p s =
      { p.sent s with ctrl := { s.ctrl with tx := some (p.secondTx s.params.responseTimeout) } } := by
  rw [sendSecond_of_ready ((linesReady_iff s p.slot).mpr ⟨hr, hp⟩), putTx_eq]
  cases hm : p.matches <;> simp [Pair.sent, Pair.secondTx, Pair.secondHalf, hm, Command.carriesData]

theorem sendSecond_absent {p : Pair} {s : State} (h : s.resetLine p.slot = true ∨ s.present p.slot = false) :
    sendSecond p s = pairResult { p with stage := .second } .absent []
      (if s.link.resetTaken = true then { p.sent s with ctrl := { s.ctrl with tx := none } }
       else superviseTakes p.slot .absent { p.sent s with ctrl := { s.ctrl with tx := none } }) := by
  have hl : linesReady s p.slot = false := by
    rw [Bool.eq_false_iff, Ne, linesReady_iff]
    rcases h with h | h <;> simp [h]
  rw [sendSecond_of_not_ready hl]
  rfl

/-! ### The results of a pair (R46, R48, R54, R55, R58, R59, R61) -/

/-- How a swap ends on a result of its pair that ends it (R59; `pairResult_second`, `pairResult_lockRead`). -/
def Pair.outcome (p : Pair) (r : Result) : XferEnd :=
  if r = .ack then .complete else .failed r.status (some (p.slot, p.addr))

@[simp] theorem Pair.outcome_status (p : Pair) (r : Result) : (p.outcome r).status = r.status := by
  cases r <;> rfl

@[simp] theorem Pair.outcome_eq_complete (p : Pair) (r : Result) : p.outcome r = .complete ↔ r = .ack := by
  cases r <;> simp [Pair.outcome]

/-- Once a bridge reset has been taken, a pair ends and nothing else changes (R61). -/
theorem endPair_of_reset {s : State} (h : s.link.resetTaken = true) (p : Pair) (o : XferEnd) (unknown : Bool) :
    endPair p o unknown s = { s with xfer := { s.xfer with pair := none } } := by
  simp [endPair, h]

/-- A second half that is not to be sent again ends the pair; the lock's state is known after an ACK and after an
ABSENT. -/
theorem pairResult_second {p : Pair} {r : Result} {s : State} (hp : p.stage = .second)
    (hr : r = .retry → s.params.retryLimit ≤ p.retries) (data : List Byte) :
    pairResult p r data s = endPair p (p.outcome r) (decide (r ≠ .ack ∧ r ≠ .absent)) s := by
  simp only [pairResult, hp]
  cases r with
  | retry => simp [secondResult, hr rfl, Pair.outcome, Result.status]
  | _ => rfl

/-- An ACKed LOCK_READ sends the second half at once, by the word read (R58). -/
theorem pairResult_lockRead_ack {p : Pair} (hp : p.stage = .lockRead) (data : List Byte) (s : State) :
    pairResult p .ack data s = sendSecond { p with old := some (readWord data) } s := by
  simp only [pairResult, hp, lockReadResult]

/-- A LOCK_READ's RETRY within the limit pauses the swap and returns the grant (R46). -/
theorem pairResult_lockRead_retry {p : Pair} {s : State} {x : Transfer} {rest : List QEntry}
    (hp : p.stage = .lockRead) (hs : s.link.resetTaken = false) (hq : s.xfer.queue = .transfer x :: rest)
    (ha : x.aborts = []) (hr : x.retries < s.params.retryLimit) (data : List Byte) :
    pairResult p .retry data s = { s with
      arb := { s.arb with holder := none }
      xfer := { s.xfer with pair := none, queue := .transfer { x with
        retries := x.retries + 1, state := .paused s.params.retryDelay } :: rest } } := by
  simp [pairResult, hp, lockReadResult, hs, hq, ha, retryHead, Nat.not_le.mpr hr, setHead, setQueue, returnGrant]

/-- A second half's RETRY within the limit starts the resend delay, the grant kept; the swap counts it (R58). -/
theorem pairResult_second_retry {p : Pair} {s : State} {x : Transfer} {rest : List QEntry} (hp : p.stage = .second)
    (hs : s.link.resetTaken = false) (hq : s.xfer.queue = .transfer x :: rest)
    (hr : p.retries < s.params.retryLimit) (data : List Byte) :
    pairResult p .retry data s = { s with xfer := { s.xfer with
      queue := .transfer { x with retries := p.retries + 1 } :: rest
      pair := some { p with retries := p.retries + 1, stage := .resend s.params.retryDelay } } } := by
  simp [pairResult, hp, secondResult, hs, hq, Nat.not_le.mpr hr, setHead, setQueue]

/-- With the swap gone in a bridge reset, the pair alone is kept for the resend (R61). -/
theorem pairResult_second_retry_of_gone {p : Pair} {s : State} (hp : p.stage = .second) (hq : s.xfer.queue = [])
    (hr : p.retries < s.params.retryLimit) (data : List Byte) :
    pairResult p .retry data s = { s with xfer := { s.xfer with
      pair := some { p with retries := p.retries + 1, stage := .resend s.params.retryDelay } } } := by
  simp [pairResult, hp, secondResult, hq, Nat.not_le.mpr hr]

/-- A LOCK_READ that ends otherwise than by an ACK ends a live swap's pair, but for a RETRY that pauses it. -/
theorem pairResult_lockRead {p : Pair} {r : Result} {s : State} {x : Transfer} {rest : List QEntry}
    (hp : p.stage = .lockRead) (ho : p.old = none) (hs : s.link.resetTaken = false)
    (hq : s.xfer.queue = .transfer x :: rest) (ha : r ≠ .ack)
    (hr : r = .retry → x.aborts ≠ [] ∨ s.params.retryLimit ≤ x.retries) (data : List Byte) :
    pairResult p r data s = endPair p (p.outcome r) false s := by
  simp only [pairResult, hp]
  cases r with
  | ack => exact absurd rfl ha
  | retry =>
    have hi : p.info false = {} := by simp [Pair.info, Pair.matches, ho]
    simp only [lockReadResult, endPair, hs, hq, endHead, hi, Pair.outcome, Result.status]
    by_cases hm : x.aborts = []
    · have hl : s.params.retryLimit ≤ x.retries := (hr rfl).resolve_left (fun h => h hm)
      simp [hm, retryHead, hl]
    · simp [hm]
  | _ => rfl

/-- With a bridge reset taken, a LOCK_READ that ends otherwise than by an ACK ends the pair and nothing else (R61). -/
theorem pairResult_lockRead_of_reset {p : Pair} {r : Result} {s : State} (hp : p.stage = .lockRead)
    (hs : s.link.resetTaken = true) (ha : r ≠ .ack) (data : List Byte) :
    pairResult p r data s = { s with xfer := { s.xfer with pair := none } } := by
  simp only [pairResult, hp]
  cases r with
  | ack => exact absurd rfl ha
  | retry => simp [lockReadResult, hs]
  | _ => exact endPair_of_reset hs ..

/-- R44's statuses of the results that end a LOCK_READ at once. -/
theorem status_of_failure {r : Result} {st : Status}
    (h : (r, st) ∈ [(Result.reject, Status.rejected), (.noResponse, .noResponse), (.parity, .parity),
      (.dataError, .parity), (.absent, .slotDown)]) : r ≠ .ack ∧ r ≠ .retry ∧ st = r.status := by
  simp only [List.mem_cons, Prod.mk.injEq, List.not_mem_nil, or_false] at h
  rcases h with ⟨rfl, rfl⟩ | ⟨rfl, rfl⟩ | ⟨rfl, rfl⟩ | ⟨rfl, rfl⟩ | ⟨rfl, rfl⟩ <;> simp [Result.status]

/-- The statuses and the lock-state-unknown indication of the results that end a second half at once (R59). -/
theorem status_of_second_end {r : Result} {st : Status} {unknown : Bool}
    (h : (r, st, unknown) ∈ [(Result.ack, Status.ok, false), (.reject, .rejected, true),
      (.noResponse, .noResponse, true), (.parity, .parity, true), (.dataError, .parity, true),
      (.absent, .slotDown, false)]) :
    r ≠ .retry ∧ st = r.status ∧ unknown = decide (r ≠ .ack ∧ r ≠ .absent) := by
  simp only [List.mem_cons, Prod.mk.injEq, List.not_mem_nil, or_false] at h
  rcases h with ⟨rfl, rfl, rfl⟩ | ⟨rfl, rfl, rfl⟩ | ⟨rfl, rfl, rfl⟩ | ⟨rfl, rfl, rfl⟩ | ⟨rfl, rfl, rfl⟩ |
    ⟨rfl, rfl, rfl⟩ <;> simp [Result.status]

/-- A swap leaves the head of the queue with its pair and the grant, through a window that is not draining and with no
fence behind it: answered as it ends where no abort is marked, and ABORTED otherwise, with an OK for each abort. -/
theorem endPair_of_swap {p : Pair} {s : State} {x : Transfer} {rest : List QEntry} (hs : s.link.resetTaken = false)
    (hq : s.xfer.queue = .transfer x :: rest) (hf : ∀ r, rest.head? ≠ some (.fence r))
    (hw : (s.window x.window).state = .enabled) (hp : x.posted = false) (hk : ∃ a b, x.kind = .swap a b)
    (o : XferEnd) (unknown : Bool) :
    endPair p o unknown s = { s with
      xfer := { s.xfer with queue := rest, pair := none }
      arb := { s.arb with holder := none }
      windows := s.windows.set x.window { s.window x.window with useCount := (s.window x.window).useCount - 1 }
      link := { s.link with replies := s.link.replies ++
        (if x.req.session = s.link.session then
          [x.req.reply (if x.aborts = [] then o else .aborted).status (p.info unknown).bytes] else []) ++
        (x.aborts.filter fun a => a.session = s.link.session).map (fun a =>
          a.reply .ok (countBytes (if o = .complete then x.length else x.completed))) } } := by
  obtain ⟨a, b, hk⟩ := hk
  have hy : (if o = .complete then { x with completed := x.length } else x) =
      { x with completed := if o = .complete then x.length else x.completed } := by
    split <;> rfl
  simp only [endPair, hq, hy, endHead]
  rw [if_neg (by simp [hs]), leaveHead_of_open, answerTransfer_eq]
  · simp only [hp, hk, Transfer.replyBody, returnGrant, List.tail_cons, true_and]
    rfl
  · exact fun h => nomatch hw.symm.trans h
  · simpa [hq] using hf

end Sys2Proof.Machine

/-! ## The delays and the locked pair -/

namespace Sys2Proof.Machine

set_option Elab.async false

/-- Settles O17: the retry delay by the head it finds, the resend delay by the start of the second half. -/
theorem delaysEnd : Obligations.DelaysEnd := by
  refine ⟨fun s x rest d hq hx => ?_, fun s p d hp hd => ?_⟩
  · show execRetryDelayExpiry s = _
    simp only [execRetryDelayExpiry, hq, hx, setHead]
    rfl
  · have he : exec .swapResendDelayExpiry s = .next (settle (sendSecond p s)) := by
      show execSwapResendDelayExpiry s = _
      simp only [execSwapResendDelayExpiry, hp, hd]
    rw [he]
    refine ⟨p.sent s, rfl, fun i hm hi hlt hv => Pair.sent_page hm hi hlt hv, Pair.sent_pages, fun hr hpr => ?_,
      fun hl idle hidle => ?_⟩
    · rw [sendSecond_ready hr hpr]
      exact ⟨_, rfl, rfl, rfl, fun hm => congrArg some (Pair.secondTx_of_match hm _),
        fun hm => congrArg some (Pair.secondTx_of_mismatch hm _)⟩
    · rw [sendSecond_absent hl, hidle]

/-- Settles O20: an ACKed LOCK_READ by the start of the second half, the two RETRYs that do not end the swap by what
they replace, and every other result by `endPair_of_swap` or, with a bridge reset taken, `endPair_of_reset`. -/
theorem lockedPair : Obligations.LockedPair := by
  refine ⟨fun s p data word hp hword => ?_, fun s p x rest data windows hs hq hwin => ⟨fun hp ha hr => ?_,
    fun hp hr => ?_, fun hf hw hpost hk r st old unknown body hr hbody => ?_⟩, fun s p data hs hq =>
    ⟨fun hp hr => ?_, fun r hr => ?_⟩⟩
  · rw [pairResult_lockRead_ack hp, show readWord data = word from hword.symm]
    refine ⟨Pair.sent { p with old := some word } s, rfl,
      fun i hm hi hlt hv => Pair.sent_page (congrArg some hm) hi hlt hv,
      fun h => Pair.sent_pages (h.imp_left fun hne => by simpa using hne), fun hr hpr => ?_, fun hl idle hidle => ?_⟩
    · exact ⟨_, sendSecond_ready hr hpr, fun hm => Pair.secondTx_of_match (congrArg some hm) _,
        fun hm => Pair.secondTx_of_mismatch (by simpa using hm) _⟩
    · rw [sendSecond_absent (by exact hl), hidle]
  · exact pairResult_lockRead_retry hp hs hq ha hr data
  · exact pairResult_second_retry hp hs hq hr data
  · have hend : pairResult p r data s = endPair p (p.outcome r) unknown s ∧ st = r.status ∧ old = p.old ∧
        (r = .ack → p.stage = .second) := by
      rcases hr with ⟨hp, ho, rfl, rfl, hr⟩ | ⟨hp, rfl, hr⟩
      · rcases hr with hr | ⟨rfl, rfl, hr⟩
        · obtain ⟨hack, hretry, rfl⟩ := status_of_failure hr
          exact ⟨pairResult_lockRead hp ho hs hq hack (absurd · hretry) data, rfl, ho.symm, (absurd · hack)⟩
        · exact ⟨pairResult_lockRead hp ho hs hq (by simp) (fun _ => hr) data, rfl, ho.symm, nofun⟩
      · rcases hr with hr | ⟨rfl, rfl, rfl, hr⟩
        · obtain ⟨hretry, rfl, rfl⟩ := status_of_second_end hr
          exact ⟨pairResult_second hp (absurd · hretry) data, rfl, rfl, fun _ => hp⟩
        · exact ⟨pairResult_second hp (fun _ => hr) data, rfl, rfl, fun _ => hp⟩
    obtain ⟨he, rfl, rfl, hack⟩ := hend
    have hdone : p.stage = .second ∧ r = .ack ↔ r = .ack := and_iff_right_of_imp hack
    have hinfo : (p.info unknown).bytes = body := hbody.symm
    rw [he, endPair_of_swap hs hq hf hw hpost hk, hinfo, hwin]
    refine ⟨fun ha => ?_, fun ha => ?_⟩
    · simp [ha, queueReply_eq]
    · simp [ha, hdone, ReqId.reply, XferEnd.status]
  · exact pairResult_second_retry_of_gone hp hq hr data
  · rcases hr with ⟨hp, hr⟩ | ⟨hp, hr⟩
    · exact pairResult_lockRead_of_reset hp hs hr data
    · rw [pairResult_second hp, endPair_of_reset hs]
      exact fun h => hr.resolve_left (fun hne => hne h)

end Sys2Proof.Machine

/-! ## Accesses and fences: ACCESS_READ, ACCESS_WRITE, ACCESS_SWAP, ACCESS_FENCE, FENCE_AT_HEAD -/

namespace Sys2Proof.Machine

set_option Elab.async false

/-! ### The checks of R38 -/

theorem queueFull_iff (s : State) : queueFull s = true ↔ 16 ≤ s.xfer.queue.length := decide_eq_true_iff

section Checks

variable {start : Word} {length : Nat} {kind : XferKind} {s : State} {w : WindowId}

theorem checkAccess_of_full (h : 16 ≤ s.xfer.queue.length) :
    checkAccess start length kind s = .error .queueFull := by
  rw [checkAccess, if_pos ((queueFull_iff s).mpr h)]

theorem checkAccess_of_no_window (hl : s.xfer.queue.length < 16) (h : ∀ w, (s.window w).holds start = false) :
    checkAccess start length kind s = .error .noWindow := by
  have hn : hit s start = none := by simp [hit, h]
  rw [checkAccess, if_neg (by simpa [queueFull_iff] using hl), hn]

/-- The checks that follow the hit decision. -/
theorem checkAccess_of_hit (hl : s.xfer.queue.length < 16) (hw : hit s start = some w) :
    checkAccess start length kind s =
      if (s.window w).base.toNat + 2 ^ (s.window w).sizeLog2 < start.toNat + length then .error .range
      else if kind.isWrite ∧ (s.window w).access = .readOnly then .error .readOnly
      else if (∃ a b, kind = .swap a b) ∧ start.toNat % 4 ≠ 0 then .error .misaligned
      else .ok w := by
  rw [checkAccess, if_neg (by simpa [queueFull_iff] using hl), hw]
  cases kind <;> simp [Window.limit]

theorem checkAccess_of_range (hl : s.xfer.queue.length < 16) (hw : hit s start = some w)
    (h : (s.window w).base.toNat + 2 ^ (s.window w).sizeLog2 < start.toNat + length) :
    checkAccess start length kind s = .error .range := by
  rw [checkAccess_of_hit hl hw, if_pos h]

theorem checkAccess_of_readOnly (hl : s.xfer.queue.length < 16) (hw : hit s start = some w)
    (hr : start.toNat + length ≤ (s.window w).base.toNat + 2 ^ (s.window w).sizeLog2) (hk : kind.isWrite = true)
    (h : (s.window w).access = .readOnly) : checkAccess start length kind s = .error .readOnly := by
  rw [checkAccess_of_hit hl hw, if_neg (Nat.not_lt.mpr hr), if_pos ⟨hk, h⟩]

theorem checkAccess_of_misaligned (hl : s.xfer.queue.length < 16) (hw : hit s start = some w)
    (hr : start.toNat + length ≤ (s.window w).base.toNat + 2 ^ (s.window w).sizeLog2)
    (ha : (s.window w).access = .readWrite) (hk : ∃ a b, kind = .swap a b) (h : start.toNat % 4 ≠ 0) :
    checkAccess start length kind s = .error .misaligned := by
  rw [checkAccess_of_hit hl hw, if_neg (Nat.not_lt.mpr hr), if_neg (by simp [ha]), if_pos ⟨hk, h⟩]

theorem checkAccess_of_good (hl : s.xfer.queue.length < 16) (hw : hit s start = some w)
    (hr : start.toNat + length ≤ (s.window w).base.toNat + 2 ^ (s.window w).sizeLog2)
    (ha : kind.isWrite = true → (s.window w).access = .readWrite)
    (hk : ∀ a b, kind = .swap a b → start.toNat % 4 = 0) :
    checkAccess start length kind s = .ok w := by
  rw [checkAccess_of_hit hl hw, if_neg (Nat.not_lt.mpr hr), if_neg, if_neg]
  · rintro ⟨⟨a, b, h⟩, hne⟩
    exact hne (hk a b h)
  · rintro ⟨h, ho⟩
    simp [ha h] at ho

end Checks

/-! ### The owners of the access requests (R38, R39) -/

/-- What an access request does by the fields its payload holds (`exec_access`). -/
def accessOwner : Option (Word × Nat × XferKind) → ReqId → State → State
  | none, r, s => queueReply r .malformed [] s
  | some (start, length, kind), r, s =>
    if 1 ≤ length ∧ length ≤ 4096 then acceptAccess r start length kind s else queueReply r .malformed [] s

theorem lengthGood_iff (n : Nat) : lengthGood n = true ↔ 1 ≤ n ∧ n ≤ 4096 := by
  rw [lengthGood, Bool.and_eq_true, decide_eq_true_iff, decide_eq_true_iff]
  rfl

theorem accessReadOwner_eq (p : List Byte) (r : ReqId) (s : State) :
    accessReadOwner p r s = accessOwner ((parseAccessRead p).map fun x => (x.1, x.2, .read)) r s := by
  unfold accessReadOwner
  cases parseAccessRead p <;> simp [accessOwner, lengthGood_iff]

theorem accessWriteOwner_eq (p : List Byte) (r : ReqId) (s : State) :
    accessWriteOwner p r s = accessOwner ((parseAccessWrite p).map fun x => (x.1, x.2.length, .write x.2)) r s := by
  unfold accessWriteOwner
  cases parseAccessWrite p <;> simp [accessOwner, lengthGood_iff]

theorem accessSwapOwner_eq (p : List Byte) (r : ReqId) (s : State) :
    accessSwapOwner p r s = accessOwner ((parseAccessSwap p).map fun x => (x.1, 4, .swap x.2.1 x.2.2)) r s := by
  unfold accessSwapOwner
  cases parseAccessSwap p <;> simp [accessOwner]

section Access

variable {c : Instr} {kind seq : Byte} {payload : List Byte} {s : State}

/-- An accepted access request acts by the fields of its payload. -/
theorem exec_access (hr : c.request = some (kind, seq, payload)) (hk : isAccessKind kind = true)
    (hg : c.kindGood = true) (ha : Accepts kind seq payload s) :
    exec c s = .next (settle (accessOwner (accessOf c) (reqId kind seq payload s) (s.accepted kind seq payload))) := by
  rw [exec_of_accepts hr hg ha]
  cases c with
  | accessRead => cases hr; exact congrArg (fun u => Host.Outcome.next (settle u)) (accessReadOwner_eq ..)
  | accessWrite => cases hr; exact congrArg (fun u => Host.Outcome.next (settle u)) (accessWriteOwner_eq ..)
  | accessSwap => cases hr; exact congrArg (fun u => Host.Outcome.next (settle u)) (accessSwapOwner_eq ..)
  | unknownKindRequest =>
    cases hr
    simp only [isAccessKind, Bool.or_eq_true, decide_eq_true_eq] at hk
    rcases hk with (rfl | rfl) | rfl <;> exact absurd hg Bool.false_ne_true
  | _ => cases hr <;> exact absurd hk (by decide)

/-- A command whose payload holds an access is one of the three access requests. -/
theorem accessKind_of_accessOf {x : Word × Nat × XferKind} (hr : c.request = some (kind, seq, payload))
    (hx : accessOf c = some x) : isAccessKind kind = true ∧ c.kindGood = true := by
  cases c with
  | accessRead | accessWrite | accessSwap => cases hr; exact ⟨by decide, rfl⟩
  | _ => cases hx

variable {start : Word} {length : Nat} {x : XferKind}

theorem exec_access_malformed (hr : c.request = some (kind, seq, payload)) (hk : isAccessKind kind = true)
    (hg : c.kindGood = true) (ha : Accepts kind seq payload s)
    (hx : ∀ start length x, accessOf c = some (start, length, x) → length = 0 ∨ 4096 < length) :
    exec c s = .next (settle (s.answered kind seq payload .malformed [])) := by
  rw [exec_access hr hk hg ha, ← queueReply_accepted]
  cases h : accessOf c with
  | none => rfl
  | some f =>
    obtain ⟨start, length, x⟩ := f
    have := hx start length x h
    rw [accessOwner, if_neg (by omega)]

/-- An access of a length that R38 admits is refused or taken as its further checks say. -/
theorem exec_access_checked (hr : c.request = some (kind, seq, payload)) (ha : Accepts kind seq payload s)
    (hx : accessOf c = some (start, length, x)) (h1 : 1 ≤ length) (h2 : length ≤ 4096) :
    exec c s = .next (settle (acceptAccess (reqId kind seq payload s) start length x
      (s.accepted kind seq payload))) := by
  obtain ⟨hk, hg⟩ := accessKind_of_accessOf hr hx
  rw [exec_access hr hk hg ha, hx, accessOwner, if_pos ⟨h1, h2⟩]

theorem exec_access_refused {st : Status} (hr : c.request = some (kind, seq, payload)) (ha : Accepts kind seq payload s)
    (hx : accessOf c = some (start, length, x)) (h1 : 1 ≤ length) (h2 : length ≤ 4096)
    (hc : checkAccess start length x s = .error st) :
    exec c s = .next (settle (s.answered kind seq payload st [])) := by
  have hc' : checkAccess start length x (s.accepted kind seq payload) = .error st := hc
  rw [exec_access_checked hr ha hx h1 h2, acceptAccess, hc', ← queueReply_accepted]

theorem exec_access_taken {w : WindowId} (hr : c.request = some (kind, seq, payload)) (ha : Accepts kind seq payload s)
    (hx : accessOf c = some (start, length, x)) (h1 : 1 ≤ length) (h2 : length ≤ 4096)
    (hc : checkAccess start length x s = .ok w) :
    exec c s = .next (settle (joinQueue (newTransfer (reqId kind seq payload s) start length x w s)
      (s.accepted kind seq payload))) := by
  have hc' : checkAccess start length x (s.accepted kind seq payload) = .ok w := hc
  rw [exec_access_checked hr ha hx h1 h2, acceptAccess, hc']
  rfl

/-- Whether an accepted entry is posted (R6, R39, R57). -/
theorem isPosted_iff (kind : XferKind) (p : WritePolicy) :
    isPosted kind p = true ↔ (∃ data, kind = .write data) ∧ p = .posted := by
  cases kind <;> simp [isPosted]

/-- An entry that is not posted joins the tail and raises its window's use count, and no reply is queued. -/
theorem joinQueue_of_unposted {t : Transfer} (h : t.posted = false) (s : State) :
    joinQueue t s = { s with
      windows := s.windows.set t.window { s.window t.window with useCount := (s.window t.window).useCount + 1 }
      xfer := { s.xfer with queue := s.xfer.queue ++ [.transfer t] } } := by
  simp only [joinQueue, h]
  rfl

/-- A posted entry joins in the same way, and its request is answered POSTED. -/
theorem joinQueue_of_posted {t : Transfer} (h : t.posted = true) (s : State) :
    joinQueue t s = { queueReply t.req .posted [] s with
      windows := s.windows.set t.window { s.window t.window with useCount := (s.window t.window).useCount + 1 }
      xfer := { s.xfer with queue := s.xfer.queue ++ [.transfer t] } } := by
  simp only [joinQueue, h, if_true, queueReply_eq]
  rfl

end Access

/-- Settles O13: the checks one by one in the order of R38, then the entry an accepted access makes. -/
theorem accessAcceptance : Obligations.AccessAcceptance := by
  refine ⟨fun c kind seq payload s start length x w hr ha hx h1 h2 hl hw hfit hacc hal => ?_,
    fun c kind seq payload s hwf hr hk ha => ⟨fun hx => ?_, fun start length x hx h1 h2 =>
      ⟨fun hfull => ?_, fun hl => ⟨fun hn => ?_, fun w hw => ⟨fun hbig => ?_, fun hfit =>
        ⟨fun hwr ho => ?_, fun hrw hsw hmis => ?_⟩⟩⟩⟩⟩⟩
  · rw [exec_access_taken hr ha hx h1 h2 (checkAccess_of_good hl hw hfit hacc hal)]
    refine ⟨fun hwr hp => ?_, fun hp => ?_⟩
    · have hpost : isPosted x (s.window w).policy = true := (isPosted_iff ..).mpr ⟨hwr, hp⟩
      rw [joinQueue_of_posted (by exact hpost)]
      simp only [newTransfer, hpost, queueReply_accepted]
      rfl
    · have hpost : isPosted x (s.window w).policy = false := by
        rw [Bool.eq_false_iff, Ne, isPosted_iff]
        rintro ⟨⟨data, hd⟩, hpol⟩
        rcases hp with hp | hp
        · exact hp data hd
        · simp [hp] at hpol
      rw [joinQueue_of_unposted (by exact hpost)]
      simp only [newTransfer, hpost]
      rfl
  · have hg : c.kindGood = true := by
      simp only [Instr.wf, Bool.and_eq_true] at hwf
      exact hwf.2
    exact exec_access_malformed hr hk hg ha hx
  · exact exec_access_refused hr ha hx h1 h2 (checkAccess_of_full hfull)
  · exact exec_access_refused hr ha hx h1 h2 (checkAccess_of_no_window hl hn)
  · exact exec_access_refused hr ha hx h1 h2 (checkAccess_of_range hl hw hbig)
  · exact exec_access_refused hr ha hx h1 h2 (checkAccess_of_readOnly hl hw hfit hwr ho)
  · exact exec_access_refused hr ha hx h1 h2 (checkAccess_of_misaligned hl hw hfit hrw hsw hmis)

/-! ### Fences (R52) -/

theorem parseEmpty_eq_none {p : List Byte} (h : p ≠ []) : parseEmpty p = none := by
  cases p with
  | nil => exact absurd rfl h
  | cons => rfl

/-- A fence that joins a queue with room is looked at as the head at once. -/
theorem accessFenceOwner_of_room {s : State} (h : s.xfer.queue.length < 16) (r : ReqId) :
    accessFenceOwner [] r s = newHead (setQueue (s.xfer.queue ++ [.fence r]) s) := by
  simp only [accessFenceOwner, parseEmpty]
  rw [if_neg (by simpa [queueFull_iff] using h)]

/-- A fence at the head with no fence behind it is answered with the posted-failure count, which returns to 0. -/
theorem newHead_of_fence_answered {r : ReqId} {rest : List QEntry} {s : State} (hq : s.xfer.queue = .fence r :: rest)
    (hr : ∀ q, rest.head? ≠ some (.fence q)) :
    newHead s = queueReply r .ok (countBytes s.xfer.postedFailures)
      { s with xfer := { s.xfer with queue := rest, postedFailures := 0 } } := by
  rw [newHead_of_fence hq hr, answerFence, queueReply_eq, queueReply_eq]
  rfl

/-- Settles O15: the fence by the queue it joins, FENCE_AT_HEAD by the head it finds. -/
theorem fence : Obligations.Fence := by
  refine ⟨fun seq payload s ha => ?_, fun r rest s hq hr => ?_, fun s hn => ?_⟩
  · have hx : exec (.accessFence seq payload) s = .next (settle (accessFenceOwner payload
        (reqId Kind.accessFence seq payload s) (s.accepted Kind.accessFence seq payload))) :=
      exec_of_accepts rfl rfl ha
    rw [hx]
    refine ⟨fun hp => ?_, fun hp hfull => ?_, fun hp hq => ?_, fun hp hl x rest hq => ?_⟩
    · simp [accessFenceOwner, parseEmpty_eq_none hp]
    · subst hp
      simp [accessFenceOwner, parseEmpty, queueFull_iff, hfull]
    · subst hp
      rw [accessFenceOwner_of_room (by simp [hq]), newHead_of_fence_answered (rest := [])
        (r := reqId Kind.accessFence seq [] s) (by simp [setQueue, hq]) (by simp)]
      simp only [queueReply_eq, ← queueReply_accepted, setQueue, accepted_frame, hq]
    · subst hp
      rw [accessFenceOwner_of_room (by exact hl), newHead_of_no_fence (by simp [setQueue, hq])]
      simp only [setQueue, accepted_frame, hq]
  · exact congrArg (fun u => Host.Outcome.next (settle u)) (newHead_of_fence_answered hq hr)
  · exact congrArg (fun u => Host.Outcome.next (settle u)) (newHead_of_no_fence hn)

end Sys2Proof.Machine

/-! ## Segments: the grant to TRANSFER, the results of a segment, and the answers of a transfer -/

namespace Sys2Proof.Machine

set_option Elab.async false

/-! ### The extent of a segment (R41) -/

/-- A segment is not empty, stays in its transfer and in one line, and ends with one of the two. -/
theorem segment_extent {x : Transfer} (_ : x.completed < x.length) :
    1 ≤ x.segmentLength ∧ x.completed + x.segmentLength ≤ x.length ∧
    (x.start.toNat + x.completed + x.segmentLength - 1) / 64 = (x.start.toNat + x.completed) / 64 ∧
    ((x.start.toNat + x.completed + x.segmentLength) % 64 = 0 ∨ x.completed + x.segmentLength = x.length) := by
  have hs : x.segmentLength = min (64 - (x.start.toNat + x.completed) % 64) (x.length - x.completed) := rfl
  omega

/-! ### The answer of a transfer that leaves (R48-R51, R189) -/

/-- The address a reply gives for an abort with every byte completed: the line of the last byte, or the start. -/
theorem lastOffset_eq (x : Transfer) :
    x.lastOffset = max x.start.toNat ((x.start.toNat + x.length - 1) / 64 * 64) - x.start.toNat := by
  unfold Transfer.lastOffset
  dsimp only
  split <;> omega

section Leave

variable {s : State} {x : Transfer} {rest : List QEntry}

/-- The table entries of a transfer that leaves through an ENABLED window, with no fence behind it. -/
theorem leaveHead_of_enabled (hq : s.xfer.queue = .transfer x :: rest) (hf : ∀ r, rest.head? ≠ some (.fence r))
    {t : Transfer} (hw : (s.window t.window).state = .enabled) (o : XferEnd) (info : SwapInfo) :
    leaveHead t o info s = { answerTransfer t o info s with
      windows := s.windows.set t.window { s.window t.window with useCount := (s.window t.window).useCount - 1 }
      xfer := { (answerTransfer t o info s).xfer with queue := rest } } := by
  rw [leaveHead_of_open (fun h => nomatch hw.symm.trans h) (by simpa [hq] using hf), hq, List.tail_cons]

variable (hq : s.xfer.queue = .transfer x :: rest) (hf : ∀ r, rest.head? ≠ some (.fence r))
  {t : Transfer} (hw : (s.window t.window).state = .enabled)

include hq hf hw

/-- A transfer without an abort mark that is not posted leaves with its reply (R48, R49). -/
theorem leaveHead_replied (ha : t.aborts = []) (hp : t.posted = false) (o : XferEnd) :
    leaveHead t o {} s = { queueReply t.req o.status (t.replyBody o {}) s with
      windows := s.windows.set t.window { s.window t.window with useCount := (s.window t.window).useCount - 1 }
      xfer := { s.xfer with queue := rest } } := by
  rw [leaveHead_of_enabled hq hf hw, answerTransfer_eq, queueReply_eq]
  simp [ha, hp]

/-- A posted write that is complete leaves without an answer (R51). -/
theorem leaveHead_posted_complete (ha : t.aborts = []) (hp : t.posted = true) :
    leaveHead t .complete {} s = { s with
      windows := s.windows.set t.window { s.window t.window with useCount := (s.window t.window).useCount - 1 }
      xfer := { s.xfer with queue := rest } } := by
  rw [leaveHead_of_enabled hq hf hw, answerTransfer_eq]
  simp [ha, hp]

/-- A posted write that fails leaves with its fault record, and raises the count of failures (R50, R51). -/
theorem leaveHead_posted_failed (ha : t.aborts = []) (hp : t.posted = true) (st : Status)
    (place : Option (SlotId × ModAddr)) :
    leaveHead t (.failed st place) {} s = { s with
      windows := s.windows.set t.window { s.window t.window with useCount := (s.window t.window).useCount - 1 }
      xfer := { s.xfer with queue := rest, postedFailures := min (s.xfer.postedFailures + 1) 65535 }
      faults := (makeRecord (t.failure st place) s).faults } := by
  rw [leaveHead_of_enabled hq hf hw, answerTransfer_eq]
  simp [ha, hp]

/-- An aborted transfer leaves with its own reply, unless it is posted, and an OK for each abort (R54, R55). -/
theorem leaveHead_aborted :
    leaveHead t .aborted {} s = { s with
      windows := s.windows.set t.window { s.window t.window with useCount := (s.window t.window).useCount - 1 }
      xfer := { s.xfer with queue := rest }
      link := { s.link with replies := s.link.replies ++
        (if t.posted = false ∧ t.req.session = s.link.session then
          [t.req.reply .aborted (t.replyBody .aborted {})] else []) ++
        (t.aborts.filter fun a => a.session = s.link.session).map (fun a =>
          a.reply .ok (countBytes t.completed)) } } := by
  rw [leaveHead_of_enabled hq hf hw, answerTransfer_eq]
  cases t.posted <;> simp [XferEnd.status]

end Leave

theorem setHead_eq {s : State} {x : Transfer} {rest : List QEntry} (hq : s.xfer.queue = .transfer x :: rest)
    (t : Transfer) :
    setHead t s = { s with xfer := { s.xfer with queue := .transfer t :: rest } } := by
  simp [setHead, setQueue, hq]

/-! ### The grant to TRANSFER (R42, R43, R57) -/

section Grant

variable {s : State} {x : Transfer} {rest : List QEntry}

theorem exec_transferGrant (hg : grantDue .transfer s = true) (hq : s.xfer.queue = .transfer x :: rest) :
    exec .transferGrant s = .next (settle (issueHead x (takeGrant .transfer s))) := by
  show execTransferGrant s = _
  simp only [execTransferGrant, hg, if_true, takeGrant_frame, hq]

/-- The backplane's transaction for a segment, with the phase and timer that R66 and R68 give its command. -/
def Transfer.issuedTx (x : Transfer) (slot : SlotId) (addr : ModAddr) (timeout : Nat) : Tx :=
  { x.segmentTx slot addr with
    phase := if (x.segmentTx slot addr).command.carriesData then .request else .wait
    timer := if (x.segmentTx slot addr).command.carriesData then none else some timeout }

/-- R42 step 4: a segment to a slot with ready lines is on the backplane, its head ISSUING and its page marked. -/
theorem startSegment_of_ready (hq : s.xfer.queue = .transfer x :: rest) {slot : SlotId}
    (hl : linesReady s slot = true) (addr : ModAddr) (entry : Option Nat) :
    startSegment x slot addr entry s = { s with
      pages := (markPage entry true x.kind.marksWritten s).pages
      xfer := { s.xfer with
        queue := .transfer { x with state := .issuing, issued := x.segmentEnd } :: rest
        pair := x.openPair slot addr entry }
      ctrl := { s.ctrl with tx := some (x.issuedTx slot addr s.params.responseTimeout) } } := by
  unfold startSegment
  dsimp only
  rw [markPage_eq, beginTx_of_ready (by exact hl), putTx_eq, setHead_eq hq]
  cases entry <;> rfl

/-- The page map after the start of a segment through a page entry, and through none (R23). -/
theorem markPage_page {s : State} {i : Nat} (hi : i < 2048) (written : Bool) :
    (markPage (some i) true written s).page i =
        { s.page i with referenced := true, written := (s.page i).written || written } ∧
      ∀ j, j ≠ i → (markPage (some i) true written s).page j = s.page j := by
  refine ⟨?_, fun j hj => ?_⟩
  · rw [markPage, setPage_page_self _ _ hi, Bool.or_true]
  · rw [markPage, setPage_page_of_ne _ _ hj.symm]

/-- Why a translation of the head's segment gives no place to issue it to: the status, and where it was translated the
slot and module address (R43). -/
def FailsAtStart (s : State) (x : Transfer) (st : Status) (place : Option (SlotId × ModAddr)) : Prop :=
  translate s (s.window x.window) (x.addressAt x.completed) x.kind.isWrite = .pageFault ∧ st = .pageFault ∧
      place = none ∨
    (∃ slot m, translate s (s.window x.window) (x.addressAt x.completed) x.kind.isWrite = .readOnly slot m ∧
      st = .readOnly ∧ place = some (slot, m)) ∨
    ∃ slot m n, translate s (s.window x.window) (x.addressAt x.completed) x.kind.isWrite = .to slot m n ∧
      (s.slot slot).state.inService = false ∧ st = .slotDown ∧ place = some (slot, m)

theorem issueHead_of_failure {st : Status} {place : Option (SlotId × ModAddr)} (h : FailsAtStart s x st place) :
    issueHead x s = returnGrant (leaveHead x (.failed st place) {} s) := by
  rcases h with ⟨h, rfl, rfl⟩ | ⟨slot, m, h, rfl, rfl⟩ | ⟨slot, m, n, h, hd, rfl, rfl⟩
  · simp only [issueHead, h]
  · simp only [issueHead, h]
  · simp only [issueHead, h, hd]
    rfl

theorem issueHead_of_service {slot : SlotId} {m : ModAddr} {n : Option Nat}
    (h : translate s (s.window x.window) (x.addressAt x.completed) x.kind.isWrite = .to slot m n)
    (hs : (s.slot slot).state.inService = true) : issueHead x s = startSegment x slot m n s := by
  simp only [issueHead, h, hs, if_true]

end Grant

/-- Settles O18: the extent of a segment, the start of one that has a place to go, and the leaving of one that fails
before its transaction. -/
theorem transferGrant : Obligations.TransferGrant := by
  refine ⟨fun x h => segment_extent h, fun s x rest slot m n hg hq ht hs hp => ?_,
    fun s x rest windows hg hq ha hf hw hwin st place hfail => ?_⟩
  · rw [exec_transferGrant hg hq, issueHead_of_service (by exact ht) (by exact hs),
      startSegment_of_ready (by exact hq) (by exact (linesReady_iff s slot).mpr ⟨resetLine_of_inService hs, hp⟩)]
    refine ⟨_, rfl, rfl, rfl, rfl, rfl, rfl, fun i hn hi => ?_, fun hn => ?_, fun hk => ?_, fun data hk => ?_,
      fun a b hk => ?_⟩
    · subst hn
      exact markPage_page hi _
    · subst hn
      rfl
    all_goals
      simp [Transfer.openPair, Transfer.issuedTx, Transfer.segmentTx, Transfer.segmentData, hk, Command.carriesData]
  · have hfail' : FailsAtStart (takeGrant .transfer s) x st place := hfail
    rw [exec_transferGrant hg hq, issueHead_of_failure hfail', hwin]
    refine ⟨fun hpost => ?_, fun hpost => ?_⟩
    · rw [leaveHead_replied (by exact hq) hf (by exact hw) ha hpost, queueReply_eq, queueReply_eq]
      exact ⟨_, rfl, rfl, rfl⟩
    · rw [leaveHead_posted_failed (by exact hq) hf (by exact hw) ha hpost]
      exact ⟨_, rfl, rfl, rfl⟩

/-! ### The results of a segment (R44-R46, R54) -/

section Results

variable {s : State} {x : Transfer}

theorem segmentResult_aborted (h : x.aborts ≠ []) (place : SlotId × ModAddr) (r : Result) (data : List Byte) :
    segmentResult x place r data s = leaveHead (if r = .ack then segmentAcked x data else x) .aborted {} s := by
  simp [segmentResult, h]

theorem segmentResult_ack (h : x.aborts = []) (place : SlotId × ModAddr) (data : List Byte) :
    segmentResult x place .ack data s =
      if x.segmentEnd = x.length then leaveHead (segmentAcked x data) .complete {} s
      else setHead { segmentAcked x data with state := .queued } s := by
  simp [segmentResult, h, segmentAcked]

/-- A result that neither completes a segment nor leaves a retry ends the transfer with the result's status. -/
theorem segmentResult_failed (h : x.aborts = []) {r : Result} (ha : r ≠ .ack)
    (hr : r = .retry → s.params.retryLimit ≤ x.retries) (place : SlotId × ModAddr) (data : List Byte) :
    segmentResult x place r data s = leaveHead x (.failed r.status (some place)) {} s := by
  cases r with
  | ack => exact absurd rfl ha
  | retry => simp [segmentResult, h, retryHead, hr rfl, Result.status]
  | _ => simp [segmentResult, h]

theorem segmentResult_retry (h : x.aborts = []) (hr : x.retries < s.params.retryLimit) (place : SlotId × ModAddr)
    (data : List Byte) :
    segmentResult x place .retry data s =
      setHead { x with retries := x.retries + 1, state := .paused s.params.retryDelay } s := by
  simp [segmentResult, h, retryHead, Nat.not_le.mpr hr]

end Results

/-- Settles O19: the reply's body by the transfer's kind; the results by whether the transfer is aborted, goes on, or
leaves. -/
theorem transferResults : Obligations.TransferResults := by
  refine ⟨fun x o info a hc hfl hal hall hlen => ?_, fun s x rest place data windows hq hwin =>
    ⟨fun ha hlt => ?_, fun ha hr => ?_, fun hf hw ha => ⟨fun hend => ?_, fun r st hr => ?_⟩,
      fun hf hw ha r y hack hne => ?_⟩⟩
  · have haddr : x.reportedAddress o = a := by
      cases o with
      | complete => exact (hc rfl).symm
      | failed st place => exact (hfl st place rfl).symm
      | aborted =>
        by_cases h : x.completed = x.length
        · rw [hall rfl h (hlen rfl), ← lastOffset_eq]
          simp [Transfer.reportedAddress, Transfer.addressAt, h]
        · rw [hal rfl h]
          simp [Transfer.reportedAddress, Transfer.addressAt, h]
    refine ⟨fun hk => ?_, fun d hk => ?_, fun c n hk => ?_⟩
    · simp [Transfer.replyBody, hk, haddr]
    · simp [Transfer.replyBody, hk, haddr]
    · simp only [Transfer.replyBody, hk]
      rfl
  · rw [segmentResult_ack ha, if_neg (by exact Nat.ne_of_lt hlt), setHead_eq hq]
    rfl
  · rw [segmentResult_retry ha hr, setHead_eq hq]
  · have hlast : segmentAcked x data = { x with
        completed := x.length, retries := 0
        readData := if x.kind = .read then x.readData ++ data else x.readData } := by
      simp only [segmentAcked, Transfer.segmentEnd, hend]
    rw [segmentResult_ack ha, if_pos (by exact hend), hwin]
    refine ⟨fun hp => ?_, fun hp => ?_⟩
    · rw [leaveHead_replied (t := segmentAcked x data) hq hf hw ha hp, hlast]
      rfl
    · exact leaveHead_posted_complete (t := segmentAcked x data) hq hf hw ha hp
  · have hres : r ≠ .ack ∧ (r = .retry → s.params.retryLimit ≤ x.retries) ∧ st = r.status := by
      rcases hr with hr | ⟨rfl, rfl, hr⟩
      · obtain ⟨hack, hretry, hst⟩ := status_of_failure hr
        exact ⟨hack, fun h => absurd h hretry, hst⟩
      · exact ⟨by simp, fun _ => hr, rfl⟩
    obtain ⟨hack, hretry, rfl⟩ := hres
    rw [segmentResult_failed ha hack hretry, hwin]
    exact ⟨fun hp => leaveHead_replied hq hf hw ha hp _, fun hp => leaveHead_posted_failed hq hf hw ha hp _ _⟩
  · rw [segmentResult_aborted ha, hwin]
    by_cases hr : r = .ack
    · rw [if_pos hr, leaveHead_aborted (t := segmentAcked x data) hq hf hw, hack hr]
      rfl
    · rw [if_neg hr, leaveHead_aborted hq hf hw, hne hr]
      rfl

end Sys2Proof.Machine

/-! ## The arbiter, and the start and end of a transaction -/

namespace Sys2Proof.Machine

set_option Elab.async false

/-! ### Who waits (R42, R73, R81, R91, R115, R130) -/

theorem mem_slotIds (i : SlotId) : i ∈ slotIds := by
  revert i; decide

theorem anyEligible_iff (s : State) : anyEligible s = true ↔ ∃ i, eligible s i = true := by
  simp [anyEligible, mem_slotIds]

/-- Nobody waits while a bridge reset is taken. -/
theorem wanted_of_reset {s : State} (h : s.link.resetTaken = true) : wanted s = {} := by
  rw [wanted, if_pos h]

theorem wanted_of_no_reset {s : State} (h : s.link.resetTaken = false) :
    wanted s =
      { hold := s.hold.state = .pending && s.arb.holder ≠ some .hold
        supervise := !s.sup.work.isEmpty && s.arb.holder ≠ some .supervise
        transfer := headQueued s && s.arb.holder ≠ some .transfer
        inbound := (s.inb.service.isSome || anyEligible s) && s.arb.holder ≠ some .inbound } := by
  rw [wanted, if_neg (by simp [h])]

/-! ### The choice (R74, R75) -/

section Choose

variable {w : Waiting} {turn n : Nat}

theorem choose_hold (h : w.hold = true) : choose w turn n = some .hold := by
  simp [choose, h]

theorem choose_supervise (hh : w.hold = false) (h : w.supervise = true) : choose w turn n = some .supervise := by
  simp [choose, hh, h]

variable (hh : w.hold = false) (hs : w.supervise = false)

include hh hs

/-- INBOUND goes before TRANSFER once the turn counter has reached INBOUND_TURN. -/
theorem choose_inbound_of_turn (h : w.inbound = true) (ht : n ≤ turn) : choose w turn n = some .inbound := by
  simp [choose, hh, hs, h, ht]

theorem choose_transfer (h : w.transfer = true) (hi : w.inbound = true → turn < n) :
    choose w turn n = some .transfer := by
  have hno : (w.inbound && decide (n ≤ turn)) = false := by
    cases hw : w.inbound with
    | false => rfl
    | true => simpa using hi hw
  simp [choose, hh, hs, h, hno]

theorem choose_inbound (ht : w.transfer = false) (h : w.inbound = true) : choose w turn n = some .inbound := by
  simp [choose, hh, hs, ht, h]

theorem choose_none (ht : w.transfer = false) (h : w.inbound = false) : choose w turn n = none := by
  simp [choose, hh, hs, ht, h]

end Choose

/-- At a free backplane with no choice standing the arbiter chooses among the requests that wait. -/
theorem settle_choice_of_free {s : State} (hh : s.arb.holder = none) (hc : s.arb.choice = none) :
    (settle s).arb.choice = choose (wanted s) (settle s).arb.turn s.params.inboundTurn := by
  simp only [settle, standingChoice, hh, hc]

/-- A choice stands while its request waits. -/
theorem settle_choice_of_waiting {s : State} {r : Requester} (hh : s.arb.holder = none) (hc : s.arb.choice = some r)
    (hw : (wanted s).has r = true) : (settle s).arb.choice = some r := by
  simp only [settle, standingChoice, hh, hc, hw, if_true]

/-! ### The inbound-turn counter (R76) -/

theorem settle_turn (s : State) :
    (settle s).arb.turn =
      if s.arb.waiting.inbound = true ∧ (wanted s).inbound = false ∧ s.arb.holder ≠ some .inbound then 0
      else s.arb.turn := by
  simp [settle, and_assoc]

/-- Settles O21: the waiting set by `wanted`, the choice by `choose` in the order of R75, the counter by `settle_turn`,
and the grant requester by requester. -/
theorem arbiterChoice : Obligations.ArbiterChoice := by
  refine ⟨fun s => ⟨wanted_of_reset, fun hr => ?_⟩, fun s hh hc => ?_, fun s => ?_, fun s r => ?_⟩
  · rw [wanted_of_no_reset hr]
    refine ⟨?_, ?_, ?_, ?_⟩
    · simp
    · simp
    · simp [headQueued_iff]
    · simp [anyEligible_iff, Option.isSome_iff_ne_none]
  · rw [settle_choice_of_free hh hc]
    exact ⟨rfl, choose_hold, choose_supervise, fun hno hns => ⟨choose_inbound_of_turn hno hns,
      choose_transfer hno hns, choose_inbound hno hns, choose_none hno hns⟩⟩
  · refine ⟨(settle s).arb, rfl, rfl, fun hh => ?_, fun r hh hc hw => settle_choice_of_waiting hh hc hw,
      fun hi hw hh => ?_, fun hi => ?_⟩
    · obtain ⟨r, hr⟩ := Option.ne_none_iff_exists'.mp hh
      exact settle_choice_of_held hr
    · rw [settle_turn, if_pos ⟨hi, hw, hh⟩]
    · rw [settle_turn, if_neg]
      rintro ⟨h1, h2, -⟩
      rcases hi with hi | hi <;> simp_all
  · refine ⟨(takeGrant r s).arb, rfl, rfl, rfl, ?_, fun q hq => ?_, ?_, ?_, ?_, ?_⟩
    · cases r <;> simp [takeGrant, Waiting.has]
    · cases q <;> simp [takeGrant, Waiting.has, hq.symm]
    · rintro rfl hi
      simp [takeGrant, turnAfterGrant, hi]
    · rintro rfl hi
      simp [takeGrant, turnAfterGrant, hi]
    · rintro rfl
      rfl
    · rintro (rfl | rfl) <;> rfl

/-! ### The end of a transaction (R71, R72, R81) -/

section Finish

variable {t : Tx} {s : State}

/-- With no bridge reset taken the result is delivered in the state the transaction's end leaves. -/
theorem finishTx_delivered (h : s.link.resetTaken = false) (r : Result) (data : List Byte) :
    finishTx t r data s = deliver t r data (clearTx t r s) := by
  simp [finishTx, h]

theorem finishTx_orphaned (h : s.link.resetTaken = true) (r : Result) (data : List Byte) :
    finishTx t r data s = orphanResult t r data (clearTx t r s) := by
  simp [finishTx, h]

theorem transferResult_of_pair {p : Pair} (h : s.xfer.pair = some p) (t : Tx) (r : Result) (data : List Byte) :
    transferResult t r data s = pairResult p r data s := by
  simp only [transferResult, h]

/-- The result of a segment of the head transfer finds the grant returned. -/
theorem transferResult_of_head {x : Transfer} {rest : List QEntry} (hr : s.link.resetTaken = false)
    (hp : s.xfer.pair = none) (hq : s.xfer.queue = .transfer x :: rest) (t : Tx) (r : Result) (data : List Byte) :
    transferResult t r data s = segmentResult x (t.slot, t.addr) r data (returnGrant s) := by
  simp [transferResult, hp, hr, hq]

/-- Once a bridge reset is taken, the result of a segment reaches nobody. -/
theorem transferResult_of_reset (hr : s.link.resetTaken = true) (hp : s.xfer.pair = none) (t : Tx) (r : Result)
    (data : List Byte) : transferResult t r data s = s := by
  simp [transferResult, hp, hr]

/-- A transaction that neither locks nor unlocks leaves its module's lock as it was (R72). -/
theorem lockAfter_of_plain (h : t.command = .read ∨ t.command = .write) (r : Result) (l : ModuleLock) :
    lockAfter t r l = l := by
  rcases h with h | h <;> simp [lockAfter, h]

/-- An unlock that does not reach the module leaves the lock (R72). -/
theorem lockAfter_of_unlock_failed (h : t.command = .unlockWrite ∨ t.command = .unlock) {r : Result}
    (hr : r ∈ [Result.retry, .reject, .dataError, .absent]) (l : ModuleLock) : lockAfter t r l = l := by
  simp only [List.mem_cons, List.not_mem_nil, or_false] at hr
  rcases h with h | h <;> rcases hr with rfl | rfl | rfl | rfl <;> simp [lockAfter, h]

end Finish

/-- Settles O22: the start by the slot's lines, the end by whether a bridge reset is taken and by the requester, the
lock by the command. -/
theorem transactionStartAndEnd : Obligations.TransactionStartAndEnd := by
  refine ⟨fun t s => ⟨fun hr hp hc => ?_, fun hr hp hc => ?_, fun h => ?_⟩, fun t r data s idle hidle =>
    ⟨fun hno => ?_, fun hre => ?_, fun hc => ?_, fun hc => ⟨?_, fun q hq => lockAfter_of_unlock_failed hc hq _⟩,
      fun l hc => lockAfter_of_plain hc r l⟩⟩
  · rw [beginTx_of_ready ((linesReady_iff ..).mpr ⟨hr, hp⟩), putTx_eq]
    simp [hc]
  · rw [beginTx_of_ready ((linesReady_iff ..).mpr ⟨hr, hp⟩), putTx_eq]
    simp [hc]
  · refine beginTx_of_not_ready ?_
    rw [Bool.eq_false_iff, Ne, linesReady_iff]
    rcases h with h | h <;> simp [h]
  · rw [finishTx_delivered hno, show clearTx t r s = idle from hidle.symm]
    refine ⟨fun h => ?_, fun h => ?_, fun h => ?_, fun h u hu => ?_⟩
    · simp only [deliver, h]
    · simp only [deliver, h]
    · simp only [deliver, h]
    · have hd : deliver t r data idle = transferResult t r data u := by simp only [deliver, h, hu]
      have hnu : u.link.resetTaken = false := by simpa [hu, hidle] using hno
      rw [hd]
      exact ⟨fun p hp => transferResult_of_pair hp t r data,
        fun x rest hp hq => transferResult_of_head hnu hp hq t r data⟩
  · rw [finishTx_orphaned hre, show clearTx t r s = idle from hidle.symm]
    refine ⟨fun h => ?_, fun h => ?_, fun h => ?_⟩
    · rcases h with h | h <;> simp only [orphanResult, h]
    · simp only [orphanResult, h]
    · have ho : orphanResult t r data idle = transferResult t r data idle := by simp only [orphanResult, h]
      have hri : idle.link.resetTaken = true := by rw [hidle]; exact hre
      have hpi : idle.xfer.pair = s.xfer.pair := by rw [hidle]
      rw [ho, ← hpi]
      exact ⟨fun hp => transferResult_of_reset hri hp t r data, fun p hp => transferResult_of_pair hp t r data⟩
  · simp [lockAfter, hc]
  · rcases hc with hc | hc <;> simp [lockAfter, hc]

end Sys2Proof.Machine

/-! ## Slots that lose their lines: SLOT_RESET, SLOT_OFF and the presence lines -/

namespace Sys2Proof.Machine

set_option Elab.async false

/-! ### A request that names a slot (R104, R106) -/

theorem slotOfByte_of_val {b : Byte} {i : SlotId} (h : i.val = b.toNat) : slotOfByte b = some i := by
  rw [slotOfByte_eq_some (by omega), ← h]
  simp

theorem slotOfByte_eq_none {b : Byte} (h : 15 < b.toNat) : slotOfByte b = none := by
  rw [slotOfByte, dif_neg (by omega)]

section OnSlot

variable {act : SlotId → ReqId → State → State} {r : ReqId} {s : State}

theorem onSlot_malformed {payload : List Byte} (h : payload.length ≠ 1) :
    onSlot payload act r s = queueReply r .malformed [] s := by
  simp [onSlot, parseByte_eq_none h]

theorem onSlot_range {b : Byte} (h : 15 < b.toNat) : onSlot [b] act r s = queueReply r .range [] s := by
  simp [onSlot, parseByte_singleton, slotOfByte_eq_none h]

theorem onSlot_of_slot {b : Byte} {i : SlotId} (h : i.val = b.toNat) : onSlot [b] act r s = act i r s := by
  simp [onSlot, parseByte_singleton, slotOfByte_of_val h]

end OnSlot

/-- SLOT_RESET is refused in OFF and in EMPTY (R104). -/
theorem resetSlot_refused {i : SlotId} {s : State} (h : (s.slot i).state = .off ∨ (s.slot i).state = .empty)
    (r : ReqId) : resetSlot i r s = queueReply r .wrongState [] s := by
  rw [resetSlot, if_pos h]

theorem resetSlot_taken {i : SlotId} {s : State} (ho : (s.slot i).state ≠ .off) (he : (s.slot i).state ≠ .empty)
    (r : ReqId) :
    resetSlot i r s = settle (queueReply r .ok [] (assertReset i .resetting .reset (pulseTimer s.params) s)) := by
  rw [resetSlot, if_neg (by simp [ho, he])]

theorem offSlot_of_off {i : SlotId} {s : State} (h : (s.slot i).state = .off) (r : ReqId) :
    offSlot i r s = queueReply r .ok [] s := by
  rw [offSlot, if_pos h]

theorem offSlot_taken {i : SlotId} {s : State} (h : (s.slot i).state ≠ .off) (r : ReqId) :
    offSlot i r s = settle (queueReply r .ok [] (assertReset i .off .off none s)) := by
  rw [offSlot, if_neg h]

/-- Settles O27: a request that is taken by what the loss of the slot's lines finds on the backplane, a refused one by
its check. -/
theorem slotResetAndOff : Obligations.SlotResetAndOff := by
  refine ⟨fun seq b s i kind c state cause timer taken hcase ha hi hno htaken => ?_, fun seq payload s =>
    ⟨fun ha => ?_, fun ha => ?_⟩⟩
  · have hx : exec c s = .next (settle (queueReply (reqId kind seq [b] s) .ok []
        (enrollDown i (slotLost i taken)))) := by
      rcases hcase with ⟨rfl, rfl, rfl, rfl, rfl, he⟩ | ⟨rfl, rfl, rfl, rfl, rfl⟩
      · have hexec : exec (.slotReset seq [b]) s = .next (onSlot [b] resetSlot (reqId Kind.slotReset seq [b] s)
            (s.accepted Kind.slotReset seq [b])) := exec_of_accepts rfl rfl ha
        rw [hexec, onSlot_of_slot hi, resetSlot_taken (by exact hno) (by exact he), assertReset_eq rfl, htaken]
        rfl
      · have hexec : exec (.slotOff seq [b]) s = .next (onSlot [b] offSlot (reqId Kind.slotOff seq [b] s)
            (s.accepted Kind.slotOff seq [b])) := exec_of_accepts rfl rfl ha
        rw [hexec, onSlot_of_slot hi, offSlot_taken (by exact hno), assertReset_eq rfl, htaken]
        rfl
    have htx : taken.ctrl.tx = s.ctrl.tx := by rw [htaken]; rfl
    have hpair : taken.xfer.pair = s.xfer.pair := by rw [htaken]; rfl
    rw [hx, ← htx, ← hpair]
    refine ⟨fun ht hp => ?_, fun t ht hs => ?_, fun p ht hp hs => ?_⟩
    · have hslot : taken.slot i = { (s.slot i).clearedCounts timer with state := state, lastCause := cause } := by
        simp [htaken, State.slot, Slot.clearedCounts]
      rw [slotLost_of_other ht hp, enrollDown_eq, queueReply_of_session (by rw [htaken]; rfl)]
      refine ⟨_, rfl, rfl, rfl, ?_⟩
      simp only [State.owedReply, hslot]
      rw [htaken]
      rfl
    · rw [slotLost_of_tx ht hs]
    · rw [slotLost_of_pair ht hp hs]
  · have hx : exec (.slotReset seq payload) s = .next (onSlot payload resetSlot (reqId Kind.slotReset seq payload s)
        (s.accepted Kind.slotReset seq payload)) := exec_of_accepts rfl rfl ha
    rw [hx]
    refine ⟨fun hp => ?_, fun b hb => ⟨fun hbig => ?_, fun i hi hst => ?_⟩⟩
    · rw [onSlot_malformed hp, queueReply_accepted]
    · rw [hb, onSlot_range hbig, queueReply_accepted]
    · rw [hb, onSlot_of_slot hi, resetSlot_refused (by exact hst), queueReply_accepted]
  · have hx : exec (.slotOff seq payload) s = .next (onSlot payload offSlot (reqId Kind.slotOff seq payload s)
        (s.accepted Kind.slotOff seq payload)) := exec_of_accepts rfl rfl ha
    rw [hx]
    refine ⟨fun hp => ?_, fun b hb => ⟨fun hbig => ?_, fun i hi hst => ?_⟩⟩
    · rw [onSlot_malformed hp, queueReply_accepted]
    · rw [hb, onSlot_range hbig, queueReply_accepted]
    · rw [hb, onSlot_of_slot hi, offSlot_of_off (by exact hst), queueReply_accepted]

/-! ### The presence lines (R87-R89) -/

/-- A slot out of service that changes its state with its timer: the record and the pending notice. -/
theorem changeState_timer {i : SlotId} {s : State} (h : (s.slot i).state.inService = false) (state : SlotState)
    (cause : LastCause) (timer : Option SlotTimer) :
    changeState i state cause (s.modifySlot i fun r => { r with timer := timer }) = { s with
      sup := { s.sup with slots := s.sup.slots.set i { s.slot i with
        state := state, lastCause := cause, timer := timer } }
      notices := { s.notices with slotPending :=
        if s.notices.slotEnabled = true then s.notices.slotPending.set i true else s.notices.slotPending } } := by
  simp only [changeState_eq, modifySlot_slot_self, h, Bool.false_and]
  simp only [State.modifySlot, Vector.set_set]
  rfl

theorem presenceLost_of_unaffected {i : SlotId} {s : State}
    (h : (s.slot i).state = .off ∨ (s.slot i).state = .resetting ∨ (s.slot i).state = .empty) :
    presenceLost i s = s := by
  rcases h with h | h | h <;> simp [presenceLost, h, SlotState.removable]

theorem presenceLost_of_settling {i : SlotId} {s : State} (h : (s.slot i).state = .settling) :
    presenceLost i s = changeState i .empty .removed (s.modifySlot i fun r => { r with timer := none }) := by
  rw [presenceLost, if_pos h]

theorem presenceLost_of_removable {i : SlotId} {s : State}
    (h : (s.slot i).state ∈ [SlotState.present, .enrolling, .active, .lagging, .faulted]) :
    presenceLost i s = removeSlot i s := by
  simp only [List.mem_cons, List.not_mem_nil, or_false] at h
  rcases h with h | h | h | h | h <;> simp [presenceLost, h, SlotState.removable]

/-- Settles O29: the level the line already has, the state the line finds the slot in, and what the loss of the line
finds on the backplane. -/
theorem presenceLines : Obligations.PresenceLines := by
  intro s i pending hpend
  refine ⟨fun h => ?_, fun h => ⟨fun he => ?_, fun hne => ?_⟩, fun h => ?_, fun gone h hgone => ?_⟩
  · show execPresenceActive i s = _
    rw [execPresenceActive, if_pos h]
  · show execPresenceActive i s = _
    have he' : ((setPresence i true s).slot i).state = .empty := he
    rw [execPresenceActive, if_neg (by simp [h])]
    simp only [he', if_true]
    rw [enterSettling, changeState_timer (by rw [he']; rfl), hpend]
    rfl
  · show execPresenceActive i s = _
    have hne' : ((setPresence i true s).slot i).state ≠ .empty := hne
    rw [execPresenceActive, if_neg (by simp [h])]
    simp only [hne', if_false]
    rfl
  · show execPresenceInactive i s = _
    rw [execPresenceInactive, if_neg (by simp [h])]
  · have hx : exec (.presenceInactive i) s = .next (settle (slotLost i gone)) := by
      show execPresenceInactive i s = _
      rw [execPresenceInactive, if_pos h]
      subst hpend
      rcases hgone with ⟨hst, rfl⟩ | ⟨hst, rfl⟩ | ⟨hst, rfl⟩
      · rw [presenceLost_of_unaffected (by exact hst)]
        rfl
      · rw [presenceLost_of_settling (by exact hst),
          changeState_timer (by exact congrArg SlotState.inService hst)]
        rfl
      · rw [presenceLost_of_removable (by exact hst), removeSlot_eq]
        rfl
    have htx : gone.ctrl.tx = s.ctrl.tx := by rcases hgone with ⟨-, rfl⟩ | ⟨-, rfl⟩ | ⟨-, rfl⟩ <;> rfl
    have hpair : gone.xfer.pair = s.xfer.pair := by rcases hgone with ⟨-, rfl⟩ | ⟨-, rfl⟩ | ⟨-, rfl⟩ <;> rfl
    rw [hx, ← htx, ← hpair]
    refine ⟨fun ht hp => ?_, fun t ht hs => ?_, fun p ht hp hs => ?_⟩
    · rw [slotLost_of_other ht hp]
    · rw [slotLost_of_tx ht hs]
    · rw [slotLost_of_pair ht hp hs]

end Sys2Proof.Machine

/-! ## The laws of the grant and of the hold unit: what holds before the arbiter settles

An event first acts and then settles the arbiter. `State.GrantBasis` and `Hold.Lawful` are what the two laws ask before
the settling; the settling gives the clauses on the standing choice. Each operation keeps the two by one lemma each. -/

namespace Sys2Proof.Machine

set_option Elab.async false

/-! ### The grant law before the settling (R63, R73-R76, R114) -/

/-- The grant law without the clauses on the standing choice, which the settling gives, and with what the settling needs:
INBOUND_TURN in its range and no INBOUND request waiting beside its own grant. -/
structure State.GrantBasis (s : State) : Prop where
  tx       : ∀ t, s.ctrl.tx = some t → s.arb.holder = some t.requester
  pair     : s.xfer.pair.isSome = true → s.arb.holder = some .transfer
  held     : s.hold.state = .held ↔ s.arb.holder = some .hold
  cycle    : ∀ t, s.ctrl.tx = some t → t.requester = .hold → s.hold.cycle.isSome = true
  turn     : s.arb.turn ≤ 16
  turnRoom : s.arb.choice = some .transfer → s.arb.turn < 16
  turnZero : s.arb.waiting.inbound = false → s.arb.turn = 0
  inbound  : s.arb.holder = some .inbound → s.arb.waiting.inbound = false
  limit    : s.params.inboundTurn ≤ 16

theorem State.GrantLaw.basis {s : State} (h : s.GrantLaw) (hl : s.params.inboundTurn ≤ 16) : s.GrantBasis :=
  ⟨h.tx, h.pair, h.held, h.cycle, h.turn, h.turnRoom, h.turnZero, h.notHeld .inbound, hl⟩

theorem choose_transfer_turn {w : Waiting} {turn n : Nat} (h : choose w turn n = some .transfer)
    (hi : w.inbound = true) : turn < n := by
  simp only [choose, hi, Bool.true_and, decide_eq_true_eq] at h
  by_contra hn
  rw [if_pos (Nat.le_of_not_lt hn)] at h
  split at h
  · cases h
  · split at h <;> cases h

theorem standingChoice_none {choice : Option Requester} {w : Waiting} {turn n : Nat}
    (h : standingChoice none choice w turn n = none) (r : Requester) : w.has r = false := by
  unfold standingChoice at h
  dsimp only at h
  split at h
  · split at h
    · cases h
    · exact (choose_eq_none_iff ..).mp h r
  · exact (choose_eq_none_iff ..).mp h r

/-- The holder of the grant has no request waiting (R73). -/
theorem wanted_holder {s : State} {r : Requester} (h : s.arb.holder = some r) : (wanted s).has r = false := by
  unfold wanted
  split
  · cases r <;> rfl
  · cases r <;> simp [Waiting.has, h]

theorem pending_of_wanted {s : State} (h : (wanted s).hold = true) : s.hold.state = .pending := by
  unfold wanted at h
  split at h
  · cases h
  · simp only [Bool.and_eq_true, decide_eq_true_eq] at h
    exact h.1

theorem settle_turn_le (s : State) : (settle s).arb.turn ≤ s.arb.turn := by
  rw [settle_turn]
  split
  · exact Nat.zero_le _
  · exact Nat.le_refl _

section Basis

variable {s t : State}

/-- With no INBOUND request waiting the settling leaves the turn counter at 0 (R76). -/
theorem State.GrantBasis.settle_turnZero (h : s.GrantBasis) (hw : (wanted s).inbound = false) :
    (settle s).arb.turn = 0 := by
  rw [settle_turn]
  split
  · rfl
  · next hn =>
    refine h.turnZero (Bool.eq_false_iff.mpr fun hi => hn ⟨hi, hw, fun hh => ?_⟩)
    rw [h.inbound hh] at hi
    cases hi

/-- A choice of TRANSFER finds room in the turn counter (R75, R76). -/
theorem State.GrantBasis.settle_turnRoom (h : s.GrantBasis) (hc : (settle s).arb.choice = some .transfer) :
    (settle s).arb.turn < 16 := by
  cases hw : (wanted s).inbound with
  | false => rw [h.settle_turnZero hw]; decide
  | true =>
    have hn : choose (wanted s) (settle s).arb.turn s.params.inboundTurn = some .transfer → (settle s).arb.turn < 16 :=
      fun hch => Nat.lt_of_lt_of_le (choose_transfer_turn hch hw) h.limit
    change standingChoice s.arb.holder s.arb.choice (wanted s) (settle s).arb.turn s.params.inboundTurn = _ at hc
    unfold standingChoice at hc
    split at hc
    · cases hc
    · split at hc
      · next r hr =>
        split at hc
        · cases hc
          exact Nat.lt_of_le_of_lt (settle_turn_le s) (h.turnRoom hr)
        · exact hn hc
      · exact hn hc

/-- The settling that ends an event gives the grant law (R73 to R76). -/
theorem State.GrantBasis.after_settle (h : s.GrantBasis) : (settle s).GrantLaw where
  tx := h.tx
  pair := h.pair
  held := h.held
  cycle := h.cycle
  free hc := by
    cases hh : s.arb.holder with
    | none => exact hh
    | some r => rw [settle_choice_of_held hh] at hc; cases hc
  chosen r hr := standingChoice_waits hr
  busy hh hc r := by
    change standingChoice s.arb.holder .. = none at hc
    rw [show s.arb.holder = none from hh] at hc
    exact standingChoice_none hc r
  notHeld r hr := wanted_holder hr
  pending hc := pending_of_wanted (standingChoice_waits hc)
  turn := Nat.le_trans (settle_turn_le s) h.turn
  turnRoom := h.settle_turnRoom
  turnZero := h.settle_turnZero

/-! ### What keeps the basis -/

/-- With the arbiter as it was, the basis asks only that a transaction or a pair is the holder's and that the hold unit
is HELD or not as before. -/
theorem State.GrantBasis.of_arb (h : s.GrantBasis) (ha : t.arb = s.arb) (hl : t.params = s.params)
    (hs : t.hold.state = .held ↔ s.hold.state = .held)
    (hp : t.xfer.pair.isSome = true → s.arb.holder = some .transfer)
    (ht : ∀ x, t.ctrl.tx = some x →
      s.arb.holder = some x.requester ∧ (x.requester = .hold → t.hold.cycle.isSome = true)) : t.GrantBasis where
  tx x hx := by rw [ha]; exact (ht x hx).1
  pair hx := by rw [ha]; exact hp hx
  held := by rw [ha, hs]; exact h.held
  cycle x hx := (ht x hx).2
  turn := by rw [ha]; exact h.turn
  turnRoom := by rw [ha]; exact h.turnRoom
  turnZero := by rw [ha]; exact h.turnZero
  inbound := by rw [ha]; exact h.inbound
  limit := by rw [hl]; exact h.limit

/-- The arbiter, the hold unit, the transaction and the pair in progress, the parameters and the taken reset stand as
they were. -/
def SameBackplane (s t : State) : Prop :=
  t.arb = s.arb ∧ t.hold = s.hold ∧ t.ctrl.tx = s.ctrl.tx ∧ t.xfer.pair = s.xfer.pair ∧ t.params = s.params ∧
    t.link.resetTaken = s.link.resetTaken

@[simp] theorem sameBackplane_iff (s t : State) :
    SameBackplane s t ↔ t.arb = s.arb ∧ t.hold = s.hold ∧ t.ctrl.tx = s.ctrl.tx ∧ t.xfer.pair = s.xfer.pair ∧
      t.params = s.params ∧ t.link.resetTaken = s.link.resetTaken := Iff.rfl

theorem State.GrantBasis.of_same (h : s.GrantBasis) (hst : SameBackplane s t) : t.GrantBasis := by
  obtain ⟨ha, hh, ht, hp, hl, -⟩ := hst
  refine h.of_arb ha hl (by rw [hh]) (by rw [hp]; exact h.pair) fun x hx => ?_
  rw [ht] at hx
  rw [hh]
  exact ⟨h.tx x hx, h.cycle x hx⟩

theorem State.GrantBasis.not_held (h : s.GrantBasis) {r : Requester} (hh : s.arb.holder = some r) (hr : r ≠ .hold) :
    s.hold.state ≠ .held := by
  rw [Ne, h.held, hh]
  exact fun e => hr (Option.some.inj e)

theorem State.GrantBasis.no_pair (h : s.GrantBasis) {r : Requester} (hh : s.arb.holder = some r) (hr : r ≠ .transfer) :
    s.xfer.pair = none := by
  rw [← Option.not_isSome_iff_eq_none]
  intro hp
  rw [h.pair hp] at hh
  exact hr (Option.some.inj hh).symm

/-- At a free backplane nothing is in progress. -/
theorem State.GrantBasis.of_free (h : s.GrantBasis) (hh : s.arb.holder = none) :
    s.ctrl.tx = none ∧ s.xfer.pair = none ∧ s.hold.state ≠ .held := by
  refine ⟨Option.eq_none_iff_forall_ne_some.mpr fun x hx => ?_, ?_, ?_⟩
  · have := h.tx x hx
    rw [hh] at this
    cases this
  · rw [← Option.not_isSome_iff_eq_none]
    intro hp
    have := h.pair hp
    rw [hh] at this
    cases this
  · rw [Ne, h.held, hh]
    simp

/-- With no cycle in progress a HELD hold has no transaction on the backplane. -/
theorem State.GrantBasis.no_tx_of_held (h : s.GrantBasis) (hs : s.hold.state = .held) (hc : s.hold.cycle = none) :
    s.ctrl.tx = none := by
  refine Option.eq_none_iff_forall_ne_some.mpr fun x hx => ?_
  have hh := h.tx x hx
  rw [h.held.mp hs] at hh
  have := h.cycle x hx (Option.some.inj hh).symm
  rw [hc] at this
  cases this

/-! ### The grant and the transaction (R65, R71, R75, R77) -/

theorem State.GrantBasis.after_returnGrant (h : s.GrantBasis) (ht : s.ctrl.tx = none) (hp : s.xfer.pair = none)
    (hs : s.hold.state ≠ .held) : (returnGrant s).GrantBasis where
  tx x hx := by simp [ht] at hx
  pair hx := by simp [hp] at hx
  held := ⟨fun e => absurd e hs, fun e => by cases e⟩
  cycle := h.cycle
  turn := h.turn
  turnRoom := h.turnRoom
  turnZero := h.turnZero
  inbound e := by cases e
  limit := h.limit

/-- A requester other than HOLD returns the grant with nothing in progress. -/
theorem State.GrantBasis.after_return (h : s.GrantBasis) {r : Requester} (hh : s.arb.holder = some r) (hr : r ≠ .hold)
    (ht : s.ctrl.tx = none) (hp : s.xfer.pair = none) (hst : SameBackplane s t) : (returnGrant t).GrantBasis := by
  have hb := h.of_same hst
  obtain ⟨-, hhold, htx, hpair, -⟩ := hst
  exact hb.after_returnGrant (htx.trans ht) (hpair.trans hp) (hhold ▸ h.not_held hh hr)

/-- The grant of a free backplane to another requester than HOLD: the turn counter has room for it (R75, R76). -/
theorem State.GrantBasis.after_takeGrant (h : s.GrantBasis) {r : Requester} (hd : grantDue r s = true) (hr : r ≠ .hold) :
    (takeGrant r s).GrantBasis := by
  simp only [grantDue, Bool.and_eq_true, decide_eq_true_eq] at hd
  obtain ⟨hh, hc⟩ := hd
  obtain ⟨ht, hp, hs⟩ := h.of_free hh
  refine ⟨fun x hx => ?_, fun hx => ?_, ⟨fun e => absurd e hs, fun e => absurd (Option.some.inj e) hr⟩,
    fun x hx => ?_, ?_, fun e => (by cases e), fun hw => ?_, fun e => ?_, h.limit⟩
  · simp [ht] at hx
  · simp [hp] at hx
  · simp [ht] at hx
  · show turnAfterGrant r s.arb ≤ 16
    cases r with
    | hold | supervise => exact h.turn
    | inbound => exact Nat.zero_le _
    | transfer =>
      have := h.turnRoom hc
      simp only [turnAfterGrant]
      split <;> omega
  · show turnAfterGrant r s.arb = 0
    cases r with
    | inbound => rfl
    | hold | supervise => exact h.turnZero (by simpa [takeGrant] using hw)
    | transfer =>
      have hw' : s.arb.waiting.inbound = false := by simpa [takeGrant] using hw
      simp [turnAfterGrant, hw', h.turnZero hw']
  · cases e
    simp [takeGrant]

theorem State.GrantBasis.after_clearTx (h : s.GrantBasis) (t : Tx) (r : Result) : (clearTx t r s).GrantBasis :=
  h.of_arb rfl rfl Iff.rfl h.pair fun x hx => by cases hx

theorem State.GrantBasis.after_putTx (h : s.GrantBasis) {t : Tx} (hh : s.arb.holder = some t.requester)
    (hc : t.requester = .hold → s.hold.cycle.isSome = true) : (putTx t s).GrantBasis := by
  refine h.of_arb rfl rfl Iff.rfl h.pair fun x hx => ?_
  rw [putTx_eq] at hx
  cases hx
  exact ⟨hh, hc⟩

end Basis

end Sys2Proof.Machine

namespace Sys2Proof.Machine

set_option Elab.async false

/-! ### The locked pair and the segments (R42, R44, R57-R59) -/

section Pair

variable {s : State}

/-- The pair in progress replaced or ended under the grant of TRANSFER. -/
theorem State.GrantBasis.with_pair (h : s.GrantBasis) {q : Option Pair}
    (hq : q.isSome = true → s.arb.holder = some .transfer) :
    State.GrantBasis { s with xfer := { s.xfer with pair := q } } :=
  h.of_arb rfl rfl Iff.rfl hq fun x hx => ⟨h.tx x hx, h.cycle x hx⟩

variable (ht : s.ctrl.tx = none) (hh : s.arb.holder = some .transfer)

include ht hh

theorem State.GrantBasis.after_endPair (h : s.GrantBasis) (p : Pair) (o : XferEnd) (unknown : Bool) :
    (endPair p o unknown s).GrantBasis := by
  have hn : State.GrantBasis { s with xfer := { s.xfer with pair := none } } := h.with_pair (by simp)
  have hg := hn.after_returnGrant ht rfl (hn.not_held hh (by simp))
  unfold endPair
  dsimp only
  split
  · exact hn
  · split
    · exact hg.of_same (by simp)
    · exact hg

theorem State.GrantBasis.after_secondResult (h : s.GrantBasis) (p : Pair) (r : Result) :
    (secondResult p r s).GrantBasis := by
  unfold secondResult
  split
  · exact h.after_endPair ht hh ..
  · split
    · exact h.after_endPair ht hh ..
    · have hp : State.GrantBasis { s with xfer := { s.xfer with
        pair := some { p with retries := p.retries + 1, stage := .resend s.params.retryDelay } } } :=
        h.with_pair fun _ => hh
      dsimp only
      split
      · split
        · exact hp
        · exact hp.of_same (by simp)
      · exact hp
  · exact h.after_endPair ht hh ..
  · exact h.after_endPair ht hh ..

omit ht in
theorem State.GrantBasis.after_sendSecond (h : s.GrantBasis) (p : Pair) : (sendSecond p s).GrantBasis := by
  have hp : (p.sent s).GrantBasis := h.of_arb rfl rfl Iff.rfl (fun _ => hh) fun x hx => ⟨h.tx x hx, h.cycle x hx⟩
  cases hl : linesReady s p.slot with
  | true =>
    rw [sendSecond_of_ready hl]
    exact hp.after_putTx hh fun e => by cases e
  | false =>
    have hc : State.GrantBasis { p.sent s with ctrl := { s.ctrl with tx := none } } :=
      hp.of_arb rfl rfl Iff.rfl hp.pair fun x hx => by cases hx
    rw [sendSecond_of_not_ready hl]
    dsimp only
    split
    · exact hc.after_secondResult rfl (by exact hh) ..
    · refine State.GrantBasis.after_secondResult ?_ ?_ (hc.of_same ?_) ..
      · simp
      · simpa using hh
      · simp [Pair.sent]

theorem State.GrantBasis.after_lockReadResult (h : s.GrantBasis) (p : Pair) (r : Result) (data : List Byte) :
    (lockReadResult p r data s).GrantBasis := by
  unfold lockReadResult
  split
  · exact h.after_sendSecond hh _
  · have hn : State.GrantBasis { s with xfer := { s.xfer with pair := none } } := h.with_pair (by simp)
    have hg := hn.after_returnGrant ht rfl (hn.not_held hh (by simp))
    dsimp only
    split
    · exact hn
    · split
      · split <;> exact hg.of_same (by simp)
      · exact hg
  · exact h.after_endPair ht hh ..

theorem State.GrantBasis.after_pairResult (h : s.GrantBasis) (p : Pair) (r : Result) (data : List Byte) :
    (pairResult p r data s).GrantBasis := by
  unfold pairResult
  split
  · exact h.after_lockReadResult ht hh ..
  · exact h.after_secondResult ht hh ..
  · exact h.after_secondResult ht hh ..

theorem State.GrantBasis.after_transferResult (h : s.GrantBasis) (x : Tx) (r : Result) (data : List Byte) :
    (transferResult x r data s).GrantBasis := by
  unfold transferResult
  split
  · exact h.after_pairResult ht hh ..
  · next hp =>
    have hg := h.after_returnGrant ht hp (h.not_held hh (by simp))
    split
    · exact h
    · split
      · exact hg.of_same (by simp)
      · exact hg

end Pair

/-! ### The hold unit's field table before the settling (R114, R120, R121) -/

/-- The hold law without its clause on the standing choice, for a hold unit and whether a bridge reset is taken. -/
structure Hold.Lawful (h : Hold) (reset : Bool) : Prop where
  acquire : h.acquire.isSome = true ↔ h.state = .pending
  limit   : h.limit.isSome = true ↔ h.state ≠ .idle
  timer   : h.limitTimer.isSome = true → h.state = .held ∧ h.endCause = none
  ending  : h.endCause.isSome = true → h.state = .held
  release : h.releaseReply.isSome = true → h.endCause.isSome = true
  cycle   : h.cycle.isSome = true → h.state = .held
  lasts   : h.endCause.isSome = true → h.cycle.isSome = true ∨ reset = true
  queue   : h.cycles ≠ [] → h.cycle.isSome = true ∨ reset = true

theorem State.holdLaw_iff (s : State) :
    s.HoldLaw ↔ s.hold.Lawful s.link.resetTaken ∧ (s.arb.choice = some .hold → s.hold.state = .pending) :=
  ⟨fun h => ⟨⟨h.acquire, h.limit, h.timer, h.ending, h.release, h.cycle, h.lasts, h.queue⟩, h.chosen⟩,
    fun ⟨h, hc⟩ => ⟨hc, h.acquire, h.limit, h.timer, h.ending, h.release, h.cycle, h.lasts, h.queue⟩⟩

/-- The hold unit once a hold has ended (R121). -/
def Hold.ended (h : Hold) : Hold :=
  { h with state := .idle, limit := none, limitTimer := none, endCause := none, releaseReply := none, cycles := [] }

/-- The hold unit once its end cause has been set (R119, R120, R126). -/
def Hold.ending (h : Hold) (cause : EndCause) (owed : Option ReqId) : Hold :=
  { h with limitTimer := none, endCause := some cause, releaseReply := owed }

section Hold

variable {h : Hold} {reset : Bool}

theorem Hold.Lawful.no_acquire (hl : h.Lawful reset) (hs : h.state ≠ .pending) : h.acquire = none := by
  rw [← Option.not_isSome_iff_eq_none, hl.acquire]
  exact hs

theorem Hold.Lawful.ended (hl : h.Lawful reset) (hs : h.state = .held) (hc : h.cycle = none) (reset' : Bool) :
    h.ended.Lawful reset' := by
  have ha : h.acquire = none := hl.no_acquire (by simp [hs])
  constructor <;> simp [Hold.ended, ha, hc]

theorem Hold.Lawful.with_ending (hl : h.Lawful reset) (hs : h.state = .held) (hc : h.cycle ≠ none) (cause : EndCause)
    (owed : Option ReqId) : (h.ending cause owed).Lawful reset := by
  have hc' : h.cycle.isSome = true := Option.isSome_iff_ne_none.mpr hc
  constructor <;> simp [Hold.ending, hl.acquire, hl.limit, hs, hc']

/-- Another cycle in progress and another queue of cycles: none waits without one in progress (R117). -/
theorem Hold.Lawful.with_cycles (hl : h.Lawful reset) (hs : h.state = .held) (he : h.endCause = none)
    {c : Option Cycle} {cs : List Cycle} (hc : cs ≠ [] → c.isSome = true) :
    Hold.Lawful { h with cycle := c, cycles := cs } reset where
  acquire := hl.acquire
  limit := hl.limit
  timer := hl.timer
  ending := hl.ending
  release := hl.release
  cycle _ := hs
  lasts e := by simp [he] at e
  queue e := .inl (hc e)

/-- From the taking of a bridge reset on a cycle in progress may be dropped (R125). -/
theorem Hold.Lawful.drop_cycle (hl : h.Lawful reset) : Hold.Lawful { h with cycle := none } true where
  acquire := hl.acquire
  limit := hl.limit
  timer := hl.timer
  ending := hl.ending
  release := hl.release
  cycle e := by cases e
  lasts _ := .inr rfl
  queue _ := .inr rfl

theorem Hold.Lawful.idle_of_pending (hl : h.Lawful reset) (hs : h.state = .pending) :
    Hold.Lawful { h with state := .idle, acquire := none, limit := none } reset := by
  have hn : ∀ {p : Prop}, (p → h.state = .held) → ¬p := fun hp e => by simpa [hs] using hp e
  have ht := hn fun e => (hl.timer e).1
  have he := hn hl.ending
  have hc := hn hl.cycle
  refine ⟨by simp, by simp, fun e => absurd e ht, fun e => absurd e he, hl.release, fun e => absurd e hc, hl.lasts,
    hl.queue⟩

/-- The taking of a bridge reset at the hold unit (R125). -/
theorem Hold.Lawful.takeReset (hl : h.Lawful reset) : h.takeReset.Lawful true := by
  have hr : h.Lawful true :=
    ⟨hl.acquire, hl.limit, hl.timer, hl.ending, hl.release, hl.cycle, fun _ => .inr rfl, fun _ => .inr rfl⟩
  have hrun : Hold.Lawful { h with limitTimer := none } true :=
    ⟨hr.acquire, hr.limit, fun e => (by cases e), hr.ending, hr.release, hr.cycle, hr.lasts, hr.queue⟩
  cases hs : h.state with
  | pending =>
    simp only [Hold.takeReset, hs]
    exact hr.idle_of_pending hs
  | idle | held =>
    simp only [Hold.takeReset, hs]
    exact hs ▸ hrun

/-- A break at the hold unit (R126). -/
theorem Hold.Lawful.afterBreak (hl : h.Lawful reset) : h.afterBreak.Lawful reset := by
  unfold Hold.afterBreak
  split
  · exact hl
  · next hs => exact hl.idle_of_pending hs
  · next hs =>
    split
    · next hc => exact hl.ended hs hc reset
    · next hc => exact hl.with_ending hs hc .brk h.releaseReply

end Hold

/-! ### The hold unit's operations (R117, R118, R121) -/

section HoldUnit

variable {s : State}

theorem endHold_hold (s : State) : (endHold s).hold = s.hold.ended := by
  unfold endHold
  dsimp only
  split <;> simp [returnGrant, Hold.ended]

theorem endHold_arb (s : State) : (endHold s).arb = { s.arb with holder := none } := by
  unfold endHold
  dsimp only
  split <;> simp [returnGrant]

/-- A hold whose end cause has been set ends, or lasts until its cycle in progress ends. -/
theorem Hold.Lawful.after_holdMayEnd {reset : Bool} (hl : s.hold.Lawful reset) (hs : s.hold.state = .held)
    (cause : EndCause) (owed : Option ReqId) :
    (holdMayEnd { s with hold := s.hold.ending cause owed }).hold.Lawful reset := by
  unfold holdMayEnd
  cases hc : s.hold.cycle with
  | none =>
    rw [if_pos (by simp [Hold.ending, hs, hc]), endHold_hold]
    exact hl.ended hs hc reset
  | some c =>
    rw [if_neg (by simp [Hold.ending, hc])]
    exact hl.with_ending hs (by simp [hc]) cause owed

theorem State.GrantBasis.after_endHold (h : s.GrantBasis) (hs : s.hold.state = .held) (hc : s.hold.cycle = none) :
    (endHold s).GrantBasis := by
  have hh := h.held.mp hs
  have ht := h.no_tx_of_held hs hc
  have hp := h.no_pair hh (by simp)
  refine ⟨fun x hx => ?_, fun hx => ?_, ?_, fun x hx => ?_, ?_, ?_, ?_, fun e => ?_, ?_⟩
  · simp [ht] at hx
  · simp [hp] at hx
  · simp [endHold_hold, endHold_arb, Hold.ended]
  · simp [ht] at hx
  · simpa using h.turn
  · simpa using h.turnRoom
  · simpa using h.turnZero
  · rw [endHold_arb] at e; cases e
  · simpa using h.limit

theorem State.GrantBasis.after_holdMayEnd (h : s.GrantBasis) : (holdMayEnd s).GrantBasis := by
  unfold holdMayEnd
  split
  · next he => exact h.after_endHold he.1 (Option.isNone_iff_eq_none.mp he.2.2)
  · exact h

theorem answerCycle_hold (c : Cycle) (r : Result) (data : List Byte) (s : State) :
    (answerCycle c r data s).hold = s.hold := by simp

/-- Starting queued cycles changes the hold unit's cycle in progress and its queue alone, and leaves none queued without
one in progress. -/
theorem startCycles_hold (cs : List Cycle) (s : State) :
    ∃ c rest, (startCycles cs s).hold = { s.hold with cycle := c, cycles := rest } ∧
      (rest ≠ [] → c.isSome = true) := by
  induction cs generalizing s with
  | nil => exact ⟨none, [], rfl, fun e => absurd rfl e⟩
  | cons d cs ih =>
    cases hl : linesReady s d.slot with
    | true =>
      rw [startCycles_of_ready hl]
      exact ⟨some d, cs, rfl, fun _ => rfl⟩
    | false =>
      obtain ⟨c, rest, hh, hc⟩ := ih (queueReply d.req .ok [0x06] { s with ctrl := { s.ctrl with tx := none } })
      rw [startCycles_of_not_ready hl]
      exact ⟨c, rest, by simpa using hh, hc⟩

theorem State.GrantBasis.after_startCycles (h : s.GrantBasis) (ht : s.ctrl.tx = none)
    (hh : s.arb.holder = some .hold) (cs : List Cycle) : (startCycles cs s).GrantBasis := by
  induction cs generalizing s with
  | nil => exact h.of_arb rfl rfl Iff.rfl h.pair fun x (hx : s.ctrl.tx = some x) => by rw [ht] at hx; cases hx
  | cons d cs ih =>
    cases hl : linesReady s d.slot with
    | true =>
      rw [startCycles_of_ready hl]
      refine State.GrantBasis.after_putTx ?_ hh fun _ => rfl
      exact h.of_arb rfl rfl Iff.rfl h.pair fun x (hx : s.ctrl.tx = some x) => by rw [ht] at hx; cases hx
    | false =>
      rw [startCycles_of_not_ready hl]
      exact ih (h.of_same (by simp [ht])) (by simp) (by simpa using hh)

theorem Hold.Lawful.after_cycleResult {reset : Bool} (hl : s.hold.Lawful reset) (r : Result) (data : List Byte) :
    (cycleResult r data s).hold.Lawful reset := by
  unfold cycleResult
  split
  · exact hl
  · next c hc =>
    have hs : s.hold.state = .held := hl.cycle (by simp [hc])
    dsimp only
    simp only [answerCycle_frame]
    split
    · next he =>
      have hn : Hold.Lawful { s.hold with cycle := none } true := hl.drop_cycle
      rw [holdMayEnd, if_pos (by simp [hs, he]), endHold_hold]
      simpa using hn.ended hs rfl reset
    · next he =>
      obtain ⟨c', rest, hh, hc'⟩ := startCycles_hold s.hold.cycles
        (answerCycle c r data { s with hold := { s.hold with cycle := none } })
      rw [hh, answerCycle_hold]
      exact hl.with_cycles hs (by simpa using he) hc'

theorem State.GrantBasis.after_cycleResult (h : s.GrantBasis) (ht : s.ctrl.tx = none)
    (hh : s.arb.holder = some .hold) (r : Result) (data : List Byte) : (cycleResult r data s).GrantBasis := by
  unfold cycleResult
  split
  · exact h
  · next c hc =>
    have hn : (answerCycle c r data { s with hold := { s.hold with cycle := none } }).GrantBasis :=
      h.of_arb (by simp) (by simp) (by simp) (by simpa using h.pair) fun x hx => by simp [ht] at hx
    dsimp only
    split
    · exact hn.after_holdMayEnd
    · exact hn.after_startCycles (by simpa using ht) (by simpa using hh) _

end HoldUnit

/-! ### The result of a transaction and its requester (R61, R71, R77, R81) -/

section Result

variable {s : State}

theorem State.GrantBasis.after_orphanResult (h : s.GrantBasis) {t : Tx} (ht : s.ctrl.tx = none)
    (hh : s.arb.holder = some t.requester) (r : Result) (data : List Byte) :
    (orphanResult t r data s).GrantBasis := by
  unfold orphanResult
  split
  · next hr => exact h.after_transferResult ht (hr ▸ hh) ..
  · exact h.of_arb rfl rfl Iff.rfl h.pair fun x (hx : s.ctrl.tx = some x) => by rw [ht] at hx; cases hx
  · exact h
  · exact h

theorem State.GrantBasis.after_deliver (h : s.GrantBasis) {t : Tx} (ht : s.ctrl.tx = none)
    (hh : s.arb.holder = some t.requester) (r : Result) (data : List Byte) : (deliver t r data s).GrantBasis := by
  unfold deliver
  split
  · next hr => exact h.after_cycleResult ht (hr ▸ hh) ..
  · next hr =>
    rw [hr] at hh
    exact h.after_return hh (by simp) ht (h.no_pair hh (by simp)) (by simp)
  · next hr =>
    rw [hr] at hh
    refine State.GrantBasis.after_transferResult ?_ ?_ (h.of_same (by simp)) ..
    · simpa using ht
    · simpa using hh
  · next hr =>
    rw [hr] at hh
    exact h.after_return hh (by simp) ht (h.no_pair hh (by simp)) (by simp)

theorem State.GrantBasis.after_finishTx (h : s.GrantBasis) {t : Tx} (hh : s.arb.holder = some t.requester)
    (r : Result) (data : List Byte) : (finishTx t r data s).GrantBasis := by
  unfold finishTx
  dsimp only
  split
  · exact (h.after_clearTx t r).after_orphanResult rfl hh ..
  · exact (h.after_clearTx t r).after_deliver rfl hh ..

theorem Hold.Lawful.after_finishTx (hl : s.hold.Lawful s.link.resetTaken) (t : Tx) (r : Result) (data : List Byte) :
    (finishTx t r data s).hold.Lawful s.link.resetTaken := by
  have hc : (clearTx t r s).hold.Lawful s.link.resetTaken := hl
  unfold finishTx
  dsimp only
  split
  · next hr =>
    simp only [clearTx_frame] at hr
    unfold orphanResult
    split
    · simpa using hc
    · rw [hr]
      exact hc.drop_cycle
    · exact hc
    · exact hc
  · unfold deliver
    split
    · exact hc.after_cycleResult ..
    · simpa using hc
    · simpa using hc
    · simpa using hc

end Result

end Sys2Proof.Machine

namespace Sys2Proof.Machine

set_option Elab.async false

/-! ### What keeps the laws -/

/-- What both laws ask before the settling passes from one state to another. -/
structure KeepsBasis (s t : State) : Prop where
  grant : s.GrantBasis → t.GrantBasis
  hold  : s.hold.Lawful s.link.resetTaken → t.hold.Lawful t.link.resetTaken

/-- The grant law, with INBOUND_TURN in its range, and the hold law pass from one state to another. -/
structure KeepsGrant (s t : State) : Prop where
  grant : s.GrantLaw ∧ s.params.inboundTurn ≤ 16 → t.GrantLaw ∧ t.params.inboundTurn ≤ 16
  hold  : s.HoldLaw → t.HoldLaw

theorem KeepsBasis.of_same {s t : State} (h : SameBackplane s t) : KeepsBasis s t := by
  refine ⟨fun hs => hs.of_same h, fun hl => ?_⟩
  obtain ⟨-, hh, -, -, -, hr⟩ := h
  rw [hh, hr]
  exact hl

theorem KeepsBasis.trans {s t u : State} (h : KeepsBasis s t) (k : KeepsBasis t u) : KeepsBasis s u :=
  ⟨fun hs => k.grant (h.grant hs), fun hs => k.hold (h.hold hs)⟩

theorem KeepsBasis.same {s t u : State} (h : KeepsBasis s t) (k : SameBackplane t u) : KeepsBasis s u :=
  h.trans (.of_same k)

theorem KeepsBasis.queueReply {s t : State} (h : KeepsBasis s t) (r : ReqId) (st : Status) (body : List Byte) :
    KeepsBasis s (queueReply r st body t) := h.same (by simp)

/-- An event that keeps the basis and then settles keeps the laws. -/
theorem KeepsBasis.settle {s t : State} (h : KeepsBasis s t) : KeepsGrant s (settle t) where
  grant := fun ⟨hs, hl⟩ => ⟨(h.grant (hs.basis hl)).after_settle, (h.grant (hs.basis hl)).limit⟩
  hold hs := (State.holdLaw_iff _).mpr ⟨h.hold ((State.holdLaw_iff s).mp hs).1, fun hc =>
    pending_of_wanted (s := t) (standingChoice_waits hc)⟩

/-- An event that leaves the arbiter and the hold unit's state as they were needs no settling. -/
theorem KeepsBasis.unsettled {s t : State} (h : KeepsBasis s t) (ha : t.arb = s.arb)
    (hs : t.hold.state = s.hold.state) : KeepsGrant s t where
  grant := fun ⟨hg, hl⟩ =>
    have hb := h.grant (hg.basis hl)
    ⟨{ tx := hb.tx, pair := hb.pair, held := hb.held, cycle := hb.cycle
       free := by rw [ha]; exact hg.free
       chosen := by rw [ha]; exact hg.chosen
       busy := by rw [ha]; exact hg.busy
       notHeld := by rw [ha]; exact hg.notHeld
       pending := by rw [ha, hs]; exact hg.pending
       turn := hb.turn, turnRoom := hb.turnRoom, turnZero := hb.turnZero }, hb.limit⟩
  hold hl := by
    obtain ⟨hl, hc⟩ := (State.holdLaw_iff s).mp hl
    exact (State.holdLaw_iff t).mpr ⟨h.hold hl, by rw [ha, hs]; exact hc⟩

namespace KeepsGrant

theorem trans {s t u : State} (h : KeepsGrant s t) (k : KeepsGrant t u) : KeepsGrant s u :=
  ⟨fun hs => k.grant (h.grant hs), fun hs => k.hold (h.hold hs)⟩

theorem refl (s : State) : KeepsGrant s s := ⟨id, id⟩

theorem of_same {s t : State} (h : SameBackplane s t) : KeepsGrant s t := by
  have hb := KeepsBasis.of_same h
  obtain ⟨ha, hh, -⟩ := h
  exact hb.unsettled ha (congrArg Hold.state hh)

theorem queueReply {s t : State} (h : KeepsGrant s t) (r : ReqId) (st : Status) (body : List Byte) :
    KeepsGrant s (queueReply r st body t) := h.trans (.of_same (by simp))

end KeepsGrant

/-! ### A transaction and the loss of a slot's lines (R59, R65, R70, R71) -/

section Transaction

variable {s : State}

theorem finishTx_keepsBasis {t : Tx} (hh : s.GrantBasis → s.arb.holder = some t.requester) (r : Result)
    (data : List Byte) : KeepsBasis s (finishTx t r data s) where
  grant h := h.after_finishTx (hh h) r data
  hold h := by simpa using h.after_finishTx t r data

theorem beginTx_keepsBasis {t : Tx} (hh : s.arb.holder = some t.requester) (hr : t.requester ≠ .hold) :
    KeepsBasis s (beginTx t s) := by
  unfold beginTx
  split
  · exact ⟨fun h => h.after_putTx hh fun e => absurd e hr, id⟩
  · exact finishTx_keepsBasis (fun _ => hh) ..

theorem slotLost_keepsBasis (i : SlotId) (s : State) : KeepsBasis s (slotLost i s) := by
  unfold slotLost
  split
  · next t ht =>
    split
    · exact finishTx_keepsBasis (fun h => h.tx t ht) ..
    · exact .of_same (by simp)
  · next ht =>
    split
    · next p hp =>
      split
      · exact ⟨fun h => h.after_endPair ht (h.pair (by simp [hp])) .., fun h => by simpa using h⟩
      · exact .of_same (by simp)
    · exact .of_same (by simp)

theorem assertReset_keepsBasis (i : SlotId) (st : SlotState) (cause : LastCause) (timer : Option SlotTimer)
    (s : State) : KeepsBasis s (assertReset i st cause timer s) := by
  have hs : KeepsBasis s (unlockModule i (changeState i st cause
      (dropItems i (s.modifySlot i fun r => r.clearedCounts timer)))) := .of_same (by simp)
  exact (hs.trans (slotLost_keepsBasis i _)).same (u := enrollDown i _) (by simp)

/-- R42 step 4 under the grant of TRANSFER: the segment or the pair it opens is the holder's. -/
theorem startSegment_keepsBasis (hh : s.arb.holder = some .transfer) (x : Transfer) (slot : SlotId) (addr : ModAddr)
    (entry : Option Nat) : KeepsBasis s (startSegment x slot addr entry s) := by
  have hm : KeepsBasis s (markPage entry true x.kind.marksWritten
      (setHead { x with state := .issuing, issued := x.segmentEnd } s)) := .of_same (by simp)
  have hp := hm.trans (KeepsBasis.mk (fun h => h.with_pair (q := x.openPair slot addr entry) fun _ => by simpa using hh) id)
  exact hp.trans (beginTx_keepsBasis (t := x.segmentTx slot addr) (by simpa [Transfer.segmentTx] using hh)
    (by simp [Transfer.segmentTx]))

theorem State.GrantBasis.after_issueHead (h : s.GrantBasis) (hh : s.arb.holder = some .transfer)
    (ht : s.ctrl.tx = none) (hp : s.xfer.pair = none) (x : Transfer) : (issueHead x s).GrantBasis := by
  have hg : ∀ o, (returnGrant (leaveHead x o {} s)).GrantBasis := fun o => h.after_return hh (by simp) ht hp (by simp)
  unfold issueHead
  split
  · exact hg _
  · exact hg _
  · split
    · exact (startSegment_keepsBasis hh ..).grant h
    · exact hg _

theorem Hold.Lawful.after_issueHead (hl : s.hold.Lawful s.link.resetTaken) (hh : s.arb.holder = some .transfer)
    (x : Transfer) : (issueHead x s).hold.Lawful s.link.resetTaken := by
  unfold issueHead
  split
  · simpa using hl
  · simpa using hl
  · split
    · simpa using (startSegment_keepsBasis hh ..).hold hl
    · simpa using hl

end Transaction

/-! ### Resets and breaks (R61, R125, R126, R177, R178) -/

section Breaks

variable {s : State}

theorem State.GrantBasis.after_breakHold (h : s.GrantBasis) : (breakHold s).GrantBasis := by
  have hx : ∀ x, s.ctrl.tx = some x → s.arb.holder = some x.requester ∧ (x.requester = .hold → s.hold.cycle.isSome = true) :=
    fun x hx => ⟨h.tx x hx, h.cycle x hx⟩
  unfold breakHold
  split
  · exact h
  · next hs => exact h.of_arb rfl rfl (by simp [hs]) h.pair hx
  · exact State.GrantBasis.after_holdMayEnd (h.of_arb rfl rfl Iff.rfl h.pair hx)

theorem breakHold_keepsBasis (s : State) : KeepsBasis s (breakHold s) where
  grant h := h.after_breakHold
  hold h := by simpa [breakHold_eq] using h.afterBreak

theorem takeReset_keepsBasis (s : State) : KeepsBasis s (takeReset s) where
  grant h := by
    have hh : s.hold.takeReset.cycle = s.hold.cycle ∧ (s.hold.takeReset.state = .held ↔ s.hold.state = .held) := by
      unfold Hold.takeReset
      split
      · next hs => simp [hs]
      · exact ⟨rfl, Iff.rfl⟩
    refine h.of_arb rfl rfl hh.2 (fun hp => h.pair ?_) fun x hx => ⟨h.tx x hx, fun hr => ?_⟩
    · simpa [takeReset, Xfer.takeReset] using hp
    · exact (congrArg Option.isSome hh.1).trans (h.cycle x hx hr)
  hold h := h.takeReset

theorem beginBreak_keepsBasis (s : State) : KeepsBasis s (beginBreak s) := by
  have hc : ∀ l : Link, l.resetTaken = s.link.resetTaken → ∀ b p, KeepsBasis s
      (noteAllSlots (breakHold { cutOff s with link := l, inb := b, pins := p })) := fun l hl b p =>
    ((KeepsBasis.of_same (t := { cutOff s with link := l, inb := b, pins := p }) (by simp [hl])).trans
      (breakHold_keepsBasis _)).same (by simp)
  have hb := hc (cutOff s).link.beginBreak (by simp [Link.beginBreak, Link.pendLinkUp])
  unfold beginBreak
  dsimp only
  split
  · exact (hb _ _).trans (takeReset_keepsBasis _)
  · exact hb _ _

theorem replySent_keepsBasis (r : Reply) (s : State) : KeepsBasis s (replySent r s) := by
  have hl : KeepsBasis s { s with
      link := { s.link with unreplied := s.link.unreplied.filter fun q => q.seq ≠ r.seq }.cacheReply r } :=
    .of_same (by simp [Link.cacheReply])
  unfold replySent
  dsimp only
  split
  · exact .of_same (by simp)
  · split
    · exact hl.trans (takeReset_keepsBasis _)
    · exact hl

end Breaks

end Sys2Proof.Machine

/-! ## The laws of the grant and of the hold unit: the owners of the requests -/

namespace Sys2Proof.Machine

set_option Elab.async false

/-! ### Windows, pages, accesses and slots (R11, R14, R18, R28-R31, R38, R52, R53, R96, R104, R106-R108) -/

theorem windowSetOwner_keepsGrant (p : List Byte) (r : ReqId) (s : State) : KeepsGrant s (windowSetOwner p r s) := by
  unfold windowSetOwner
  (repeat' split) <;> exact .of_same (by simp)

theorem windowClearOwner_keepsGrant (p : List Byte) (r : ReqId) (s : State) :
    KeepsGrant s (windowClearOwner p r s) := by
  unfold windowClearOwner clearWindow
  (repeat' split) <;> exact .of_same (by simp)

theorem windowGetOwner_keepsGrant (p : List Byte) (r : ReqId) (s : State) : KeepsGrant s (windowGetOwner p r s) := by
  unfold windowGetOwner
  (repeat' split) <;> exact .of_same (by simp)

theorem writePages_same (first : Nat) (es : List PageEntry) (s : State) :
    SameBackplane s (writePages first es s) := by
  rw [writePages_eq]
  exact ⟨rfl, rfl, rfl, rfl, rfl, rfl⟩

theorem clearPages_same (first count : Nat) (s : State) : SameBackplane s (clearPages first count s) := by
  rw [clearPages_eq]
  exact ⟨rfl, rfl, rfl, rfl, rfl, rfl⟩

theorem pageWriteOwner_keepsGrant (p : List Byte) (r : ReqId) (s : State) : KeepsGrant s (pageWriteOwner p r s) := by
  unfold pageWriteOwner
  split
  · exact (KeepsGrant.refl s).queueReply ..
  · split
    · split
      · exact (KeepsGrant.refl s).queueReply ..
      · exact (KeepsGrant.of_same (writePages_same ..)).queueReply ..
    · exact (KeepsGrant.refl s).queueReply ..

theorem pageReadOwner_keepsGrant (p : List Byte) (r : ReqId) (s : State) : KeepsGrant s (pageReadOwner p r s) := by
  unfold pageReadOwner
  (repeat' split) <;> exact .of_same (by simp)

theorem pageSweepOwner_keepsGrant (p : List Byte) (r : ReqId) (s : State) : KeepsGrant s (pageSweepOwner p r s) := by
  unfold pageSweepOwner
  split
  · exact (KeepsGrant.refl s).queueReply ..
  · split
    · exact (KeepsGrant.of_same (clearPages_same ..)).queueReply ..
    · exact (KeepsGrant.refl s).queueReply ..

theorem acceptAccess_same (r : ReqId) (start : Word) (length : Nat) (kind : XferKind) (s : State) :
    SameBackplane s (acceptAccess r start length kind s) := by
  unfold acceptAccess joinQueue
  (repeat' split) <;> simp

theorem accessReadOwner_keepsBasis (p : List Byte) (r : ReqId) (s : State) : KeepsBasis s (accessReadOwner p r s) := by
  unfold accessReadOwner
  split
  · exact .of_same (by simp)
  · split
    · exact .of_same (acceptAccess_same ..)
    · exact .of_same (by simp)

theorem accessWriteOwner_keepsBasis (p : List Byte) (r : ReqId) (s : State) :
    KeepsBasis s (accessWriteOwner p r s) := by
  unfold accessWriteOwner
  split
  · exact .of_same (by simp)
  · split
    · exact .of_same (acceptAccess_same ..)
    · exact .of_same (by simp)

theorem accessSwapOwner_keepsBasis (p : List Byte) (r : ReqId) (s : State) : KeepsBasis s (accessSwapOwner p r s) := by
  unfold accessSwapOwner
  split
  · exact .of_same (by simp)
  · exact .of_same (acceptAccess_same ..)

theorem accessFenceOwner_keepsBasis (p : List Byte) (r : ReqId) (s : State) :
    KeepsBasis s (accessFenceOwner p r s) := by
  unfold accessFenceOwner
  (repeat' split) <;> exact .of_same (by simp)

/-- A request withdrawn voids a choice of it (R74). -/
theorem withdrawRequest_keepsBasis (r : Requester) (s : State) : KeepsBasis s (withdrawRequest r s) where
  grant h := { h with
    turnRoom := fun hc => by
      simp only [withdrawRequest] at hc
      split at hc
      · cases hc
      · exact h.turnRoom hc }
  hold h := h

theorem answerAborted_same (e : QEntry) (r : ReqId) (s : State) : SameBackplane s (answerAborted e r s) := by
  unfold answerAborted
  split <;> simp

theorem abortAt_keepsBasis (n : Nat) (e : QEntry) (r : ReqId) (s : State) : KeepsBasis s (abortAt n e r s) := by
  have hq : ∀ q u, SameBackplane u (newHead (setQueue q u)) := by simp
  unfold abortAt
  split
  · split
    · exact .of_same (by simp)
    · have hw : KeepsBasis s (if n = 0 then withdrawRequest .transfer s else s) := by
        split
        · exact withdrawRequest_keepsBasis ..
        · exact .of_same (by simp)
      exact (hw.same (answerAborted_same _ r _)).same (hq ..)
  · exact (KeepsBasis.of_same (answerAborted_same _ r s)).same (hq ..)

theorem accessAbortOwner_keepsBasis (p : List Byte) (r : ReqId) (s : State) :
    KeepsBasis s (accessAbortOwner p r s) := by
  unfold accessAbortOwner
  split
  · exact .of_same (by simp)
  · split
    · exact .of_same (by simp)
    · split
      · exact abortAt_keepsBasis ..
      · exact .of_same (by simp)

theorem onSlot_keepsGrant {act : SlotId → ReqId → State → State} (h : ∀ i r s, KeepsGrant s (act i r s))
    (p : List Byte) (r : ReqId) (s : State) : KeepsGrant s (onSlot p act r s) := by
  unfold onSlot
  split
  · exact (KeepsGrant.refl s).queueReply ..
  · split
    · exact (KeepsGrant.refl s).queueReply ..
    · exact h ..

theorem enrollSlot_keepsGrant (i : SlotId) (r : ReqId) (s : State) : KeepsGrant s (enrollSlot i r s) := by
  unfold enrollSlot
  split
  · exact (KeepsBasis.of_same (by simp)).settle
  · exact (KeepsGrant.refl s).queueReply ..

theorem resetSlot_keepsGrant (i : SlotId) (r : ReqId) (s : State) : KeepsGrant s (resetSlot i r s) := by
  unfold resetSlot
  split
  · exact (KeepsGrant.refl s).queueReply ..
  · exact ((assertReset_keepsBasis ..).queueReply ..).settle

theorem offSlot_keepsGrant (i : SlotId) (r : ReqId) (s : State) : KeepsGrant s (offSlot i r s) := by
  unfold offSlot
  split
  · exact (KeepsGrant.refl s).queueReply ..
  · exact ((assertReset_keepsBasis ..).queueReply ..).settle

theorem onSlotAgain_keepsGrant (i : SlotId) (r : ReqId) (s : State) : KeepsGrant s (onSlotAgain i r s) := by
  unfold onSlotAgain
  split <;> exact .of_same (by simp)

/-! ### The hold requests (R115, R117, R119) -/

/-- HOLD_ACQUIRE of an IDLE hold unit: PENDING, with the reply owed and the limit (R115). -/
theorem Hold.Lawful.pending {h : Hold} {reset : Bool} (hl : h.Lawful reset) (hs : h.state = .idle) (r : ReqId)
    (n : Nat) : Hold.Lawful { h with state := .pending, acquire := some r, limit := some n } reset := by
  have hn : ∀ {p : Prop}, (p → h.state = .held) → ¬p := fun hp e => by simpa [hs] using hp e
  have ht := hn fun e => (hl.timer e).1
  have he := hn hl.ending
  have hc := hn hl.cycle
  exact ⟨by simp, by simp, fun e => absurd e ht, fun e => absurd e he, hl.release, fun e => absurd e hc, hl.lasts,
    hl.queue⟩

theorem holdAcquireOwner_keepsBasis (p : List Byte) (r : ReqId) (s : State) :
    KeepsBasis s (holdAcquireOwner p r s) := by
  unfold holdAcquireOwner
  split
  · exact .of_same (by simp)
  · split
    · exact .of_same (by simp)
    · split
      · exact .of_same (by simp)
      · next n _ _ hs =>
        have hs : s.hold.state = .idle := by simpa using hs
        exact ⟨fun h => h.of_arb rfl rfl (by simp [hs]) h.pair fun x hx => ⟨h.tx x hx, h.cycle x hx⟩,
          fun h => h.pending hs r n⟩

/-- A cycle that is taken by a HELD hold that is not ending starts or joins the queue (R117). -/
theorem takeCycle_keepsBasis {s : State} (hu : holdUsable s = true) (c : Cycle) : KeepsBasis s (takeCycle c s) := by
  simp only [holdUsable, Bool.and_eq_true, decide_eq_true_eq, Option.isNone_iff_eq_none] at hu
  obtain ⟨hs, he⟩ := hu
  unfold takeCycle
  split
  · next hc =>
    exact ⟨fun h => h.of_arb rfl rfl Iff.rfl h.pair fun x hx => ⟨h.tx x hx, h.cycle x hx⟩,
      fun h => h.with_cycles hs he fun _ => hc⟩
  · next hc =>
    have hc : s.hold.cycle = none := by simpa using hc
    refine ⟨fun h => h.after_startCycles (h.no_tx_of_held hs hc) (h.held.mp hs) _, fun h => ?_⟩
    obtain ⟨c', rest, hh, hc'⟩ := startCycles_hold (s.hold.cycles ++ [c]) s
    simp only [startCycles_frame]
    rw [hh]
    exact h.with_cycles hs he hc'

theorem holdCycleOwner_keepsGrant (p : List Byte) (r : ReqId) (s : State) : KeepsGrant s (holdCycleOwner p r s) := by
  unfold holdCycleOwner
  split
  · exact .of_same (by simp)
  · split
    · split
      · split
        · next hu =>
          refine (takeCycle_keepsBasis hu _).unsettled ?_ ?_ <;> (unfold takeCycle; split <;> simp)
        · exact .of_same (by simp)
      · exact .of_same (by simp)
    · exact .of_same (by simp)

/-- The end cause of a HELD hold is set (R119, R120, R126). -/
theorem setEnding_keepsBasis {s : State} (hs : s.hold.state = .held) (cause : EndCause) (owed : Option ReqId) :
    KeepsBasis s (holdMayEnd { s with hold := s.hold.ending cause owed }) where
  grant h := State.GrantBasis.after_holdMayEnd
    (h.of_arb rfl rfl Iff.rfl h.pair fun x hx => ⟨h.tx x hx, h.cycle x hx⟩)
  hold h := by simpa using h.after_holdMayEnd hs cause owed

theorem releaseHold_keepsBasis (r : ReqId) (s : State) : KeepsBasis s (releaseHold r s) := by
  unfold releaseHold
  split
  · exact .of_same (by simp)
  · next hs =>
    have hq : KeepsBasis s (queueReply r .ok [] (queueOwed s.hold.acquire .cancelled [] s)) := .of_same (by simp)
    refine hq.trans ⟨fun h => h.of_arb rfl rfl ?_ h.pair fun x hx => ⟨h.tx x hx, h.cycle x hx⟩, fun h => ?_⟩
    · simp [hs]
    · exact h.idle_of_pending (by simpa using hs)
  · next hs =>
    split
    · exact .of_same (by simp)
    · exact setEnding_keepsBasis hs .release (some r)

theorem holdReleaseOwner_keepsBasis (p : List Byte) (r : ReqId) (s : State) :
    KeepsBasis s (holdReleaseOwner p r s) := by
  unfold holdReleaseOwner
  split
  · exact .of_same (by simp)
  · exact releaseHold_keepsBasis ..

/-! ### The requests of the inbound engine, the fault list, the notice unit and the link (R144, R145, R154, R155, R161,
R178-R181) -/

theorem postCreditOwner_keepsGrant (p : List Byte) (r : ReqId) (s : State) :
    KeepsGrant s (postCreditOwner p r s) := by
  unfold postCreditOwner
  (repeat' split) <;> exact .of_same (by simp)

theorem attentionMaskOwner_keepsGrant (p : List Byte) (r : ReqId) (s : State) :
    KeepsGrant s (attentionMaskOwner p r s) := by
  unfold attentionMaskOwner
  split
  · exact .of_same (by simp)
  · exact (KeepsBasis.of_same (by simp)).settle

theorem faultReadOwner_keepsGrant (p : List Byte) (r : ReqId) (s : State) : KeepsGrant s (faultReadOwner p r s) := by
  unfold faultReadOwner
  (repeat' split) <;> exact .of_same (by simp)

theorem faultClearOwner_keepsGrant (p : List Byte) (r : ReqId) (s : State) :
    KeepsGrant s (faultClearOwner p r s) := by
  unfold faultClearOwner
  (repeat' split) <;> exact .of_same (by simp)

theorem noticeMaskOwner_keepsGrant (p : List Byte) (r : ReqId) (s : State) :
    KeepsGrant s (noticeMaskOwner p r s) := by
  unfold noticeMaskOwner
  (repeat' split) <;> exact .of_same (by simp)

theorem echoOwner_keepsGrant (p : List Byte) (r : ReqId) (s : State) : KeepsGrant s (echoOwner p r s) := by
  unfold echoOwner
  (repeat' split) <;> exact .of_same (by simp)

theorem configGetOwner_keepsGrant (p : List Byte) (r : ReqId) (s : State) : KeepsGrant s (configGetOwner p r s) := by
  unfold configGetOwner
  (repeat' split) <;> exact .of_same (by simp)

theorem inRange_of_checkPairs {raw : List (Byte × BitVec 16)} {ps : List (ParamId × Nat)}
    (h : checkPairs raw = some ps) : ∀ x ∈ ps, x.1.inRange x.2 = true := by
  induction raw generalizing ps with
  | nil => cases h; simp
  | cons y raw ih =>
    unfold checkPairs at h
    split at h
    · next i qs _ hq =>
      split at h
      · next hi =>
        cases h
        intro x hx
        rcases List.mem_cons.mp hx with rfl | hx
        · exact hi.1
        · exact ih hq x hx
      · cases h
    · cases h

/-- Values in their ranges leave INBOUND_TURN at most 16 (R181). -/
theorem Params.apply_inboundTurn_le {ps : List (ParamId × Nat)} (h : ∀ x ∈ ps, x.1.inRange x.2 = true) {p : Params}
    (hp : p.inboundTurn ≤ 16) : (p.apply ps).inboundTurn ≤ 16 := by
  induction ps generalizing p with
  | nil => exact hp
  | cons x ps ih =>
    refine ih (fun y hy => h y (List.mem_cons_of_mem _ hy)) (p := p.set x.1 x.2) ?_
    have hx := h x List.mem_cons_self
    obtain ⟨i, v⟩ := x
    cases i with
    | inboundTurn =>
      simp only [ParamId.inRange, Bool.and_eq_true, decide_eq_true_eq] at hx
      exact hx.2
    | _ => exact hp

theorem configSetOwner_keepsGrant (p : List Byte) (r : ReqId) (s : State) : KeepsGrant s (configSetOwner p r s) := by
  unfold configSetOwner
  split
  · exact .of_same (by simp)
  · split
    · exact .of_same (by simp)
    · next ps hps =>
      have hp : KeepsGrant s (setParams (s.params.apply ps) s) :=
        ⟨fun ⟨hg, hl⟩ => ⟨{ hg with }, Params.apply_inboundTurn_le (inRange_of_checkPairs hps) hl⟩,
          fun h => { h with }⟩
      exact hp.queueReply ..

theorem bridgeResetOwner_keepsGrant (p : List Byte) (r : ReqId) (s : State) :
    KeepsGrant s (bridgeResetOwner p r s) := by
  unfold bridgeResetOwner
  (repeat' split) <;> exact .of_same (by simp)

end Sys2Proof.Machine

/-! ## The laws of the grant and of the hold unit: every command -/

namespace Sys2Proof.Machine

set_option Elab.async false

/-! ### Every owner, and the receipt of a request (R168, R170) -/

theorem ite_keepsGrant {c : Prop} [Decidable c] {f g : ReqId → State → State} (hf : ∀ r s, KeepsGrant s (f r s))
    (hg : ∀ r s, KeepsGrant s (g r s)) : ∀ r s, KeepsGrant s ((if c then f else g) r s) := by
  split <;> assumption

theorem ownerOf_keepsGrant (kind : Byte) (p : List Byte) : ∀ r s, KeepsGrant s (ownerOf kind p r s) := by
  refine ite_keepsGrant (windowSetOwner_keepsGrant p) ?_
  refine ite_keepsGrant (windowClearOwner_keepsGrant p) ?_
  refine ite_keepsGrant (windowGetOwner_keepsGrant p) ?_
  refine ite_keepsGrant (pageWriteOwner_keepsGrant p) ?_
  refine ite_keepsGrant (pageReadOwner_keepsGrant p) ?_
  refine ite_keepsGrant (pageSweepOwner_keepsGrant p) ?_
  refine ite_keepsGrant (fun r s => (accessReadOwner_keepsBasis p r s).settle) ?_
  refine ite_keepsGrant (fun r s => (accessWriteOwner_keepsBasis p r s).settle) ?_
  refine ite_keepsGrant (fun r s => (accessSwapOwner_keepsBasis p r s).settle) ?_
  refine ite_keepsGrant (fun r s => (accessFenceOwner_keepsBasis p r s).settle) ?_
  refine ite_keepsGrant (fun r s => (accessAbortOwner_keepsBasis p r s).settle) ?_
  refine ite_keepsGrant (onSlot_keepsGrant (fun i r s => (KeepsGrant.refl s).queueReply ..) p) ?_
  refine ite_keepsGrant (onSlot_keepsGrant enrollSlot_keepsGrant p) ?_
  refine ite_keepsGrant (onSlot_keepsGrant resetSlot_keepsGrant p) ?_
  refine ite_keepsGrant (onSlot_keepsGrant offSlot_keepsGrant p) ?_
  refine ite_keepsGrant (onSlot_keepsGrant onSlotAgain_keepsGrant p) ?_
  refine ite_keepsGrant (fun r s => (holdAcquireOwner_keepsBasis p r s).settle) ?_
  refine ite_keepsGrant (holdCycleOwner_keepsGrant p) ?_
  refine ite_keepsGrant (fun r s => (holdReleaseOwner_keepsBasis p r s).settle) ?_
  refine ite_keepsGrant (postCreditOwner_keepsGrant p) ?_
  refine ite_keepsGrant (attentionMaskOwner_keepsGrant p) ?_
  refine ite_keepsGrant (faultReadOwner_keepsGrant p) ?_
  refine ite_keepsGrant (faultClearOwner_keepsGrant p) ?_
  refine ite_keepsGrant (noticeMaskOwner_keepsGrant p) ?_
  refine ite_keepsGrant (echoOwner_keepsGrant p) ?_
  refine ite_keepsGrant (configGetOwner_keepsGrant p) ?_
  refine ite_keepsGrant (configSetOwner_keepsGrant p) ?_
  refine ite_keepsGrant (bridgeResetOwner_keepsGrant p) ?_
  exact fun r s => (KeepsGrant.refl s).queueReply ..

theorem handOn_keepsGrant (kind seq : Byte) (payload : List Byte) (s : State) :
    KeepsGrant s (handOn kind seq payload (ownerOf kind payload) s) := by
  have hl : ∀ l : Link, l.resetTaken = s.link.resetTaken → KeepsGrant s { s with link := l } :=
    fun l h => .of_same ⟨rfl, rfl, rfl, rfl, rfl, h⟩
  unfold handOn
  dsimp only
  split
  · exact .refl s
  · next e _ => exact hl _ (by unfold Link.resend; split <;> rfl)
  · exact hl _ rfl
  · exact (hl (s.link.accept _) rfl).trans (ownerOf_keepsGrant ..)

/-! ### The receive line (R165, R166, R168) -/

section Line

variable {s₀ : State}

theorem withFramer_keepsGrantFrom (f : Framer) (s : State) (h : KeepsGrant s₀ s) : KeepsGrant s₀ (s.withFramer f) :=
  h.trans (.of_same ⟨rfl, rfl, rfl, rfl, rfl, rfl⟩)

theorem passOn_keepsGrantFrom (q : RxRequest) (s : State) (h : KeepsGrant s₀ s) : KeepsGrant s₀ (passOn q s) :=
  h.trans (handOn_keepsGrant ..)

theorem withLowRun_keepsGrantFrom (run : Nat) (s : State) (h : KeepsGrant s₀ s) (_ : s.link.phase ≠ .brk)
    (_ : run < Config.breakTimes) : KeepsGrant s₀ (s.withLowRun run) :=
  h.trans (.of_same ⟨rfl, rfl, rfl, rfl, rfl, rfl⟩)

theorem beginBreak_keepsGrantFrom (s : State) (h : KeepsGrant s₀ s) (_ : s.link.phase ≠ .brk) :
    KeepsGrant s₀ (settle (beginBreak s)) :=
  h.trans (beginBreak_keepsBasis s).settle

theorem endBreak_keepsGrantFrom (s : State) (h : KeepsGrant s₀ s) (_ : s.link.phase = .brk) :
    KeepsGrant s₀ (endBreak s) :=
  h.trans (.of_same ⟨rfl, rfl, rfl, rfl, rfl, rfl⟩)

end Line

theorem hearLevels_keepsGrant (cs : List LineChar) (heard : List RxChar) (s : State) :
    KeepsGrant s (hearLevels cs heard s) :=
  hearLevels_keeps (P := KeepsGrant s) withFramer_keepsGrantFrom passOn_keepsGrantFrom withLowRun_keepsGrantFrom
    beginBreak_keepsGrantFrom endBreak_keepsGrantFrom cs heard (.refl s)

theorem onRequest_keepsGrant (kind seq : Byte) (payload : List Byte) (s : State) :
    KeepsGrant s (onRequest kind seq payload (ownerOf kind payload) s) :=
  onRequest_keeps (P := KeepsGrant s) withFramer_keepsGrantFrom passOn_keepsGrantFrom withLowRun_keepsGrantFrom
    beginBreak_keepsGrantFrom endBreak_keepsGrantFrom (fun _ h => h.trans (handOn_keepsGrant ..)) (.refl s)

/-! ### Every command -/

/-- What an outcome leads on to keeps both laws. -/
def KeepsGrantOut (s : State) (o : Host.Outcome State Fault Refusal) : Prop :=
  ∀ t, o = .next t → KeepsGrant s t

theorem KeepsGrantOut.next {s t : State} (h : KeepsGrant s t) : KeepsGrantOut s (.next t) := by
  rintro _ ⟨⟩
  exact h

theorem execFrameSent_keepsGrant (s : State) : KeepsGrantOut s (execFrameSent s) := by
  have hl : KeepsBasis s { s with link := { s.link with transmitter := none } } :=
    .of_same ⟨rfl, rfl, rfl, rfl, rfl, rfl⟩
  refine .next ?_
  split
  · exact .refl s
  · refine KeepsBasis.settle (hl.trans ?_)
    split
    · exact replySent_keepsBasis ..
    · exact .of_same (by simp)
    · exact .of_same (by simp)

/-- The grant of a free backplane to another requester than HOLD: what follows it finds the requester the holder and
nothing in progress. -/
theorem KeepsBasis.of_grant {r : Requester} {s u : State} (hd : grantDue r s = true) (hr : r ≠ .hold)
    (hg : (takeGrant r s).GrantBasis → (takeGrant r s).ctrl.tx = none → (takeGrant r s).xfer.pair = none → u.GrantBasis)
    (hl : (takeGrant r s).hold.Lawful s.link.resetTaken → u.hold.Lawful u.link.resetTaken) : KeepsBasis s u where
  grant h := by
    simp only [grantDue, Bool.and_eq_true, decide_eq_true_eq] at hd
    obtain ⟨ht, hp, -⟩ := h.of_free hd.1
    exact hg (h.after_takeGrant (by simpa [grantDue] using hd) hr) ht hp
  hold h := hl h

/-- The grant returned unused (R43, R91, R141). -/
theorem KeepsBasis.of_unused_grant {r : Requester} {s u : State} (hd : grantDue r s = true) (hr : r ≠ .hold)
    (hu : SameBackplane (takeGrant r s) u) : KeepsBasis s (returnGrant u) := by
  refine .of_grant hd hr (fun h ht hp => h.after_return rfl hr ht hp hu) fun h => ?_
  exact (KeepsBasis.of_same hu).hold h

/-- A transaction started under a grant (R65). -/
theorem KeepsBasis.of_granted_tx {r : Requester} {s u : State} (hd : grantDue r s = true) (hr : r ≠ .hold)
    (hu : SameBackplane (takeGrant r s) u) {t : Tx} (ht : t.requester = r) : KeepsBasis s (beginTx t u) := by
  have hs := KeepsBasis.of_same hu
  obtain ⟨ha, -⟩ := hu
  have hb : KeepsBasis u (beginTx t u) := beginTx_keepsBasis (by rw [ha, ht]; rfl) (by rw [ht]; exact hr)
  exact .of_grant hd hr (fun h _ _ => hb.grant (hs.grant h)) fun h => hb.hold (hs.hold h)

theorem execTransferGrant_keepsGrant (s : State) : KeepsGrantOut s (execTransferGrant s) := by
  refine .next ?_
  split
  · next hd =>
    refine KeepsBasis.settle ?_
    split
    · next x rest _ =>
      refine .of_grant hd (by simp) (fun h ht hp => h.after_issueHead rfl ht hp x) fun h => ?_
      simpa using Hold.Lawful.after_issueHead (s := takeGrant .transfer s) h rfl x
    · exact .of_unused_grant hd (by simp) (by simp)
  · exact .refl s

theorem execSuperviseGrant_keepsGrant (s : State) : KeepsGrantOut s (execSuperviseGrant s) := by
  refine .next ?_
  split
  · next hd =>
    refine KeepsBasis.settle ?_
    split
    · dsimp only
      split
      · exact .of_granted_tx hd (by simp) (by simp) rfl
      · exact .of_unused_grant hd (by simp) (by simp)
    · exact .of_unused_grant hd (by simp) (by simp)
  · exact .refl s

theorem Service.tx_requester (v : Service) : v.tx.requester = .inbound := by
  unfold Service.tx
  split <;> rfl

theorem execInboundGrant_keepsGrant (s : State) : KeepsGrantOut s (execInboundGrant s) := by
  refine .next ?_
  split
  · next hd =>
    refine KeepsBasis.settle ?_
    split
    · split
      · exact .of_granted_tx hd (by simp) (by simp) (Service.tx_requester _)
      · exact .of_unused_grant hd (by simp) (by simp)
    · split
      · exact .of_granted_tx hd (by simp) (by simp) (Service.tx_requester _)
      · exact .of_unused_grant hd (by simp) (by simp)
  · exact .refl s

/-- The hold unit once HOLD has been granted (R116). -/
def Hold.granted (h : Hold) : Hold := { h with state := .held, acquire := none, limitTimer := h.limit }

theorem Hold.Lawful.granted {h : Hold} {reset : Bool} (hl : h.Lawful reset) (hs : h.state = .pending) :
    h.granted.Lawful reset := by
  have he : h.endCause = none := by
    rw [← Option.not_isSome_iff_eq_none]
    exact fun e => by simpa [hs] using hl.ending e
  exact ⟨by simp [Hold.granted], by simp [Hold.granted, hl.limit, hs], fun _ => ⟨rfl, he⟩, fun _ => rfl, hl.release,
    fun _ => rfl, hl.lasts, hl.queue⟩

/-- The grant to HOLD: holder and hold unit change together (R114, R116). -/
theorem State.GrantBasis.grant_hold {s : State} (h : s.GrantBasis) (hh : s.arb.holder = none) :
    State.GrantBasis { takeGrant .hold s with hold := s.hold.granted } := by
  obtain ⟨ht, hp, -⟩ := h.of_free hh
  refine ⟨fun x (hx : s.ctrl.tx = some x) => ?_, fun (hx : s.xfer.pair.isSome = true) => ?_, ?_,
    fun x (hx : s.ctrl.tx = some x) => ?_, h.turn, fun e => (by cases e), fun hw => h.turnZero ?_,
    fun e => (by cases e), h.limit⟩
  · rw [ht] at hx; cases hx
  · rw [hp] at hx; cases hx
  · exact ⟨fun _ => rfl, fun _ => rfl⟩
  · rw [ht] at hx; cases hx
  · simpa [takeGrant] using hw

theorem execHoldGrant_keepsGrant (s : State) : KeepsGrantOut s (execHoldGrant s) := by
  refine .next ?_
  split
  · next hd =>
    simp only [grantDue, Bool.and_eq_true, decide_eq_true_eq] at hd
    obtain ⟨hh, hc⟩ := hd
    have hs : SameBackplane { takeGrant .hold s with hold := s.hold.granted }
        (skipItems (queueOwed s.hold.acquire .ok (countBytes (s.hold.limit.getD 0))
          { takeGrant .hold s with hold := s.hold.granted })) := by simp
    refine ⟨fun ⟨hg, hl⟩ => ?_, fun h => ?_⟩
    · have hb := ((hg.basis hl).grant_hold hh).of_same hs
      exact ⟨hb.after_settle, hb.limit⟩
    · obtain ⟨hl, hp⟩ := (State.holdLaw_iff s).mp h
      have hb := (KeepsBasis.of_same hs).hold (hl.granted (hp hc))
      exact (State.holdLaw_iff _).mpr ⟨hb, fun e => pending_of_wanted (standingChoice_waits e)⟩
  · exact .refl s

/-- Another transaction of the requester that has one in progress (R66, R67, R69). -/
theorem setTx_keepsBasis {s : State} {t x : Tx} (ht : s.ctrl.tx = some t) (hr : x.requester = t.requester) :
    KeepsBasis s (setTx x s) := by
  refine ⟨fun h => h.of_arb rfl rfl Iff.rfl h.pair fun y hy => ?_, id⟩
  cases hy
  rw [hr]
  exact ⟨h.tx t ht, h.cycle t ht⟩

/-- The transaction in progress ends, its read check driven first (R67-R69, R71). -/
theorem finishTx_of_progress {s u : State} {t x : Tx} (ht : s.ctrl.tx = some t) (hr : x.requester = t.requester)
    (hu : SameBackplane s u) (r : Result) (data : List Byte) : KeepsBasis s (finishTx x r data u) := by
  refine (KeepsBasis.of_same hu).trans (finishTx_keepsBasis (fun h => ?_) r data)
  obtain ⟨-, -, htx, -⟩ := hu
  rw [hr]
  exact h.tx t (htx.trans ht)

theorem execRequestDriven_keepsGrant (s : State) : KeepsGrantOut s (execRequestDriven s) := by
  refine .next ?_
  split
  · next t ht =>
    split
    · refine (setTx_keepsBasis ht ?_).unsettled rfl rfl
      rfl
    · exact .refl s
  · exact .refl s

theorem execResponseCodeArrives_keepsGrant (code : ResponseCode) (good : Bool) (s : State) :
    KeepsGrantOut s (execResponseCodeArrives code good s) := by
  refine .next ?_
  split
  · next t ht =>
    split
    · refine KeepsBasis.settle ?_
      split
      · exact setTx_keepsBasis ht rfl
      · exact finishTx_of_progress ht rfl (by split <;> simp) ..
    · exact .refl s
  · exact .refl s

theorem execReadDataWordArrives_keepsGrant (word : Word) (parity : BitVec 4) (s : State) :
    KeepsGrantOut s (execReadDataWordArrives word parity s) := by
  refine .next ?_
  split
  · next t ht =>
    split
    · refine KeepsBasis.settle ?_
      split
      · exact setTx_keepsBasis ht rfl
      · split <;> exact finishTx_of_progress ht rfl (by simp) ..
    · exact .refl s
  · exact .refl s

theorem execResponseTimerExpiry_keepsGrant (s : State) : KeepsGrantOut s (execResponseTimerExpiry s) := by
  refine .next ?_
  split
  · next t ht =>
    split
    · exact (finishTx_of_progress ht rfl (by split <;> simp) ..).settle
    · exact .refl s
  · exact .refl s

theorem execRetryDelayExpiry_keepsGrant (s : State) : KeepsGrantOut s (execRetryDelayExpiry s) := by
  refine .next ?_
  split
  · split
    · exact (KeepsBasis.of_same (by simp)).settle
    · exact .refl s
  · exact .refl s

theorem execSwapResendDelayExpiry_keepsGrant (s : State) : KeepsGrantOut s (execSwapResendDelayExpiry s) := by
  refine .next ?_
  split
  · next p hp =>
    split
    · exact (KeepsBasis.mk (fun h => h.after_sendSecond (h.pair (by simp [hp])) p) fun h => by simpa using h).settle
    · exact .refl s
  · exact .refl s

theorem execPresenceActive_keepsGrant (i : SlotId) (s : State) : KeepsGrantOut s (execPresenceActive i s) := by
  have hp : KeepsGrant s (setPresence i true s) := .of_same ⟨rfl, rfl, rfl, rfl, rfl, rfl⟩
  refine .next ?_
  dsimp only
  split
  · exact .refl s
  · split
    · exact hp.trans (.of_same (by simp))
    · exact hp

theorem execPresenceInactive_keepsGrant (i : SlotId) (s : State) : KeepsGrantOut s (execPresenceInactive i s) := by
  refine .next ?_
  split
  · exact (KeepsBasis.trans (.of_same (by simp [setPresence])) (slotLost_keepsBasis ..)).settle
  · exact .refl s

theorem execLimitTimerExpiry_keepsGrant (s : State) : KeepsGrantOut s (execLimitTimerExpiry s) := by
  refine .next ?_
  split
  · next h => exact (setEnding_keepsBasis h.1 .expiry s.hold.releaseReply).settle
  · exact .refl s

/-- In a lawful state no hold is due to end: HOLD_ENDS finds nothing left to do (R121, log 5). -/
theorem holdMayEnd_keepsBasis {s : State} (hr : s.link.resetTaken = false) : KeepsBasis s (holdMayEnd s) where
  grant h := h.after_holdMayEnd
  hold h := by
    rw [holdMayEnd, if_neg]
    · exact h
    · rintro ⟨-, he, hc⟩
      have := h.lasts he
      simp [hr, Option.isNone_iff_eq_none.mp hc] at this

theorem execHoldEnds_keepsGrant (s : State) : KeepsGrantOut s (execHoldEnds s) := by
  refine .next ?_
  split
  · exact .refl s
  · next hr => exact (holdMayEnd_keepsBasis (by simpa using hr)).settle

/-- A hold unit as at power-on is lawful. -/
theorem Hold.Lawful.reset (reset : Bool) : Hold.Lawful {} reset := by
  constructor <;> simp

/-- With an arbiter and a hold unit as at power-on and nothing in progress the basis holds. -/
theorem State.GrantBasis.of_reset {t : State} (ha : t.arb = {}) (hh : t.hold = {}) (ht : t.ctrl.tx = none)
    (hp : t.xfer.pair = none) (hl : t.params.inboundTurn ≤ 16) : t.GrantBasis := by
  constructor <;> simp [ha, hh, ht, hp, hl]

theorem execPowerOn_keepsGrant (pins : PowerPins) (s : State) : KeepsGrantOut s (execPowerOn pins s) := by
  refine .next ⟨fun _ => ?_, fun _ => (State.holdLaw_iff _).mpr ⟨.reset false, fun e => by cases e⟩⟩
  refine ⟨?_, show State.reset.params.inboundTurn ≤ 16 by decide⟩
  constructor <;> simp [State.reset]
  exact fun r => by cases r <;> rfl

theorem execBridgeResetComplete_keepsGrant (s : State) : KeepsGrantOut s (execBridgeResetComplete s) := by
  refine .next ?_
  split
  · next h =>
    obtain ⟨-, ht, hp⟩ := h
    obtain ⟨ha, hh⟩ : (completeReset s).arb = {} ∧ (completeReset s).hold = {} := by simp [completeReset]
    refine KeepsBasis.settle ⟨fun hb => .of_reset ha hh ?_ ?_ ?_, fun _ => hh ▸ .reset _⟩
    · simpa using ht
    · simpa using hp
    · simpa using hb.limit
  · exact .refl s

/-- Every command keeps the laws of the grant and of the hold unit. -/
theorem exec_keepsGrant (c : Instr) (s : State) : KeepsGrantOut s (exec c s) := by
  cases hr : c.request with
  | some q =>
    obtain ⟨kind, seq, payload⟩ := q
    rw [exec_request hr]
    refine .next ?_
    split
    · exact onRequest_keepsGrant ..
    · exact .refl s
  | none =>
    cases c with
    | powerOn pins => exact execPowerOn_keepsGrant pins s
    | breakBegin =>
      refine .next ?_
      split
      · exact .refl s
      · exact (beginBreak_keepsBasis s).settle
    | frameDiscard chars => exact .next (hearLevels_keepsGrant ..)
    | frameSent => exact execFrameSent_keepsGrant s
    | bridgeResetComplete => exact execBridgeResetComplete_keepsGrant s
    | transferGrant => exact execTransferGrant_keepsGrant s
    | superviseGrant => exact execSuperviseGrant_keepsGrant s
    | inboundGrant => exact execInboundGrant_keepsGrant s
    | holdGrant => exact execHoldGrant_keepsGrant s
    | requestDriven => exact execRequestDriven_keepsGrant s
    | responseCodeArrives code good => exact execResponseCodeArrives_keepsGrant code good s
    | readDataWordArrives word parity => exact execReadDataWordArrives_keepsGrant word parity s
    | responseTimerExpiry => exact execResponseTimerExpiry_keepsGrant s
    | retryDelayExpiry => exact execRetryDelayExpiry_keepsGrant s
    | swapResendDelayExpiry => exact execSwapResendDelayExpiry_keepsGrant s
    | presenceActive i => exact execPresenceActive_keepsGrant i s
    | presenceInactive i => exact execPresenceInactive_keepsGrant i s
    | limitTimerExpiry => exact execLimitTimerExpiry_keepsGrant s
    | holdEnds => exact execHoldEnds_keepsGrant s
    | breakEnd => exact .next (by split; exacts [.of_same ⟨rfl, rfl, rfl, rfl, rfl, rfl⟩, .refl s])
    | outputFrameBegin => exact .next (by split; exacts [.of_same (by simp), .refl s])
    | settleTimerExpiry i =>
      exact .next (by split; exacts [(KeepsBasis.of_same (by split <;> simp)).settle, .refl s])
    | attemptGapExpiry i => exact .next (by split; exacts [(KeepsBasis.of_same (by simp)).settle, .refl s])
    | checkTimerExpiry i => exact .next (by split; exacts [(KeepsBasis.of_same (by simp)).settle, .refl s])
    | pulseTimerExpiry i => exact .next (by split; exacts [.of_same (by simp), .refl s])
    | backOffExpiry i => exact .next (by split; exacts [(KeepsBasis.of_same (by simp)).settle, .refl s])
    | stampTick => exact .next (.of_same ⟨rfl, rfl, rfl, rfl, rfl, rfl⟩)
    | attentionChange i level => exact .next (KeepsBasis.of_same (s := s) (by simp)).settle
    | windowDrainEnd w => exact .next (.of_same (by simp))
    | fenceAtHead => exact .next (KeepsBasis.of_same (by simp)).settle
    | _ => cases hr

/-- Settles O58: a step runs the front command, and every command keeps both laws; the grant law needs of the counts and
parameters only that INBOUND_TURN is at most 16. -/
theorem grantAndHoldLawsKept : Obligations.GrantAndHoldLawsKept := by
  intro s t h
  have hk : KeepsGrant s t := by
    unfold step at h
    split at h
    · next c rest _ =>
      have hp : KeepsGrant s { s with pending := rest } := .of_same ⟨rfl, rfl, rfl, rfl, rfl, rfl⟩
      exact hp.trans (exec_keepsGrant c _ t h)
    · cases h
      exact .refl s
  refine ⟨fun hc hg => (hk.grant ⟨hg, ?_⟩).1, hk.hold⟩
  have := hc.params .inboundTurn
  simp only [ParamId.inRange, Bool.and_eq_true, decide_eq_true_eq] at this
  exact this.2

end Sys2Proof.Machine

/-! ## The events of a transaction: data words, response codes, read data and the response timer -/

namespace Sys2Proof.Machine

set_option Elab.async false

/-! ### Data words (R66) -/

section Words

variable (t : Tx)

/-- The words from the one of the first byte to the one of the last. -/
theorem Tx.wordCount_eq (h : 1 ≤ t.count) :
    t.wordCount = (t.addr.toNat + t.count - 1) / 4 - t.addr.toNat / 4 + 1 := by
  simp only [Tx.wordCount]
  omega

/-- A lane is enabled exactly when the transaction addresses its byte. -/
theorem Tx.laneEnabled_iff (i k : Nat) :
    t.laneEnabled i k = true ↔ t.addr.toNat ≤ t.addr.toNat / 4 * 4 + 4 * i + k ∧
      t.addr.toNat / 4 * 4 + 4 * i + k < t.addr.toNat + t.count := by
  simp only [Tx.laneEnabled, Bool.and_eq_true, decide_eq_true_eq]
  omega

/-- The byte the controller drives on lane `k` of word `i`. -/
def Tx.drivenByte (i k : Nat) : Byte :=
  if t.laneEnabled i k then byteAt t.writeData (4 * i + k - t.addr.toNat % 4) else 0

theorem Tx.drivenByte_of_disabled {i k : Nat} (h : t.laneEnabled i k = false) : t.drivenByte i k = 0 := by
  simp [Tx.drivenByte, h]

theorem Tx.drivenByte_of_enabled {i k : Nat} (h : t.laneEnabled i k = true) :
    t.drivenByte i k = t.writeData.getD (t.addr.toNat / 4 * 4 + 4 * i + k - t.addr.toNat) 0 := by
  have hk : t.addr.toNat / 4 * 4 + 4 * i + k - t.addr.toNat = 4 * i + k - t.addr.toNat % 4 := by omega
  rw [Tx.drivenByte, if_pos h, hk]
  rfl

/-- A driven word lane by lane: the byte, the enable and the odd parity line. -/
theorem Tx.drivenWord_lane {i k : Nat} (hk : k < 4) :
    (t.drivenWord i).lanes[k]? = some (t.drivenByte i k) ∧
    (t.drivenWord i).enables[k]? = some (t.laneEnabled i k) ∧
    (t.drivenWord i).parity[k]? = some (!oddOnes (t.drivenByte i k)) := by
  have hl : [0, 1, 2, 3][k]? = some k := by
    match k, hk with
    | 0, _ | 1, _ | 2, _ | 3, _ => rfl
  refine ⟨?_, ?_, ?_⟩
  · simp only [Tx.drivenWord, List.getElem?_map, hl]
    rfl
  · simp only [Tx.drivenWord, List.getElem?_map, hl]
    rfl
  · simp only [Tx.drivenWord, List.getElem?_map, hl]
    rfl

end Words

/-! ### Response codes (R67-R69) -/

section Code

variable {s : State} {t : Tx}

/-- An ACK that opens a read's DATA phase starts the response timer for the first word. -/
theorem exec_responseCode_of_data (ht : s.ctrl.tx = some t) (hp : t.phase = .wait) {code : ResponseCode} {good : Bool}
    (hr : codeResult t.command code good = none) :
    exec (.responseCodeArrives code good) s =
      .next (settle (setTx { t with phase := .data, timer := some s.params.responseTimeout } s)) := by
  show execResponseCodeArrives code good s = _
  simp only [execResponseCodeArrives, ht, hp, if_true, hr]

/-- A code whose result is not PARITY ends the transaction and drives no read check. -/
theorem exec_responseCode_of_result (ht : s.ctrl.tx = some t) (hp : t.phase = .wait) {code : ResponseCode} {good : Bool}
    {r : Result} (hr : codeResult t.command code good = some r) (hn : r ≠ .parity) :
    exec (.responseCodeArrives code good) s = .next (settle (finishTx t r [] s)) := by
  show execResponseCodeArrives code good s = _
  simp only [execResponseCodeArrives, ht, hp, if_true, hr, hn, and_false, if_false]

/-- A code that ends PARITY drives the read check REFUSE for a command that returns data. -/
theorem exec_responseCode_of_parity (ht : s.ctrl.tx = some t) (hp : t.phase = .wait) {code : ResponseCode} {good : Bool}
    (hr : codeResult t.command code good = some .parity) :
    exec (.responseCodeArrives code good) s = .next (settle (finishTx t .parity [] { s with ctrl := { s.ctrl with
      readCheck := if t.command.returnsData = true then some .refuse else s.ctrl.readCheck } })) := by
  show execResponseCodeArrives code good s = _
  simp only [execResponseCodeArrives, ht, hp, if_true, hr]
  cases t.command.returnsData <;> rfl

theorem codeResult_of_parity {code : ResponseCode} {good : Bool} (h : good = false ∨ code = .unnamed) (k : Command) :
    codeResult k code good = some .parity := by
  rcases h with rfl | rfl
  · rfl
  · cases good <;> rfl

end Code

/-- Settles O23: the words and lanes by arithmetic on the byte addresses, the codes by `codeResult`. -/
theorem requestAndResponse : Obligations.RequestAndResponse := by
  refine ⟨fun t hc => ⟨t.wordCount_eq hc, fun i k _ => t.laneEnabled_iff i k, fun i k hk => ?_, fun h => ?_, fun h => ?_⟩,
    fun s t ht => ⟨fun hp => ?_, fun hp => ?_, fun hp => ⟨fun hr => ?_, fun hr => ?_, fun code r hm => ?_,
      fun code good h => ?_⟩, fun hp code good => ?_⟩⟩
  · obtain ⟨hl, he, ho⟩ := t.drivenWord_lane (i := i) hk
    exact ⟨t.drivenByte i k, hl, he, ho, t.drivenByte_of_disabled, t.drivenByte_of_enabled⟩
  · rw [Tx.drivenWords, if_pos ((carriesData_iff _).mpr h)]
  · rw [Tx.drivenWords, if_neg]
    rw [carriesData_iff]
    rcases h with h | h | h <;> simp [h]
  · show execRequestDriven s = _
    simp only [execRequestDriven, ht, hp, if_true]
    rfl
  · show execRequestDriven s = _
    simp only [execRequestDriven, ht, hp, if_false]
  · exact exec_responseCode_of_data ht hp (by simp [codeResult, hr])
  · exact exec_responseCode_of_result ht hp (by simp [codeResult, hr]) (by simp)
  · simp only [List.mem_cons, Prod.mk.injEq, List.not_mem_nil, or_false] at hm
    rcases hm with ⟨rfl, rfl⟩ | ⟨rfl, rfl⟩ | ⟨rfl, rfl⟩ <;> exact exec_responseCode_of_result ht hp rfl (by simp)
  · exact exec_responseCode_of_parity ht hp (codeResult_of_parity h _)
  · show execResponseCodeArrives code good s = _
    simp only [execResponseCodeArrives, ht, hp, if_false]

/-! ### Read data words and the response timer (R67-R69) -/

section ReadData

variable {s : State} {t : Tx}

/-- A read data word in DATA: more words follow, or the last one ends the transaction by whether a lane mismatched. -/
theorem exec_readDataWord (ht : s.ctrl.tx = some t) (hp : t.phase = .data) (word : Word) (parity : BitVec 4) {u : Tx}
    (hu : u = t.receive word parity s.params.responseTimeout) :
    exec (.readDataWordArrives word parity) s = .next (settle
      (if t.words + 1 < t.wordCount then setTx u s
       else if u.mismatch then finishTx u .parity [] (driveCheck .refuse s)
       else finishTx u .ack u.readData (driveCheck .accept s))) := by
  show execReadDataWordArrives word parity s = _
  subst hu
  simp only [execReadDataWordArrives, ht, hp, if_true]
  rfl

/-- The mismatch a word leaves: an earlier one, or an enabled lane of its own without odd parity. -/
theorem Tx.receive_mismatch_iff (t : Tx) (word : Word) (parity : BitVec 4) (timeout : Nat) :
    (t.receive word parity timeout).mismatch = true ↔ t.mismatch = true ∨ ∃ k, k < 4 ∧
      t.laneEnabled t.words k = true ∧ (oddOnes (word.extractLsb' (8 * k) 8) ^^ parity.getLsbD k) = false := by
  have hm : ∀ k, k ∈ [0, 1, 2, 3] ↔ k < 4 := fun k => by simp; omega
  simp only [Tx.receive, Bool.or_eq_true, List.any_eq_true, List.mem_filter, hm, and_assoc, laneGood, lane,
    Bool.not_eq_true']

end ReadData

/-- Settles O24: a word by `Tx.receive`, with the last word's ending by its mismatch, and the expiry by the phase. -/
theorem readDataAndTimeout : Obligations.ReadDataAndTimeout := by
  refine ⟨fun s t word parity ht hp new bad hnew hbad => ?_, fun s t ht hr => ?_, fun s hn => ?_⟩
  · have hb : (t.receive word parity s.params.responseTimeout).mismatch = bad := by
      rw [Bool.eq_iff_iff, Tx.receive_mismatch_iff, hbad]
    have hd : (t.receive word parity s.params.responseTimeout).readData = t.readData ++ new := by
      rw [hnew]
      rfl
    have hx := exec_readDataWord ht hp word parity rfl
    refine ⟨fun hw => ?_, fun hw => ⟨t.receive word parity s.params.responseTimeout, rfl, rfl, rfl, rfl, rfl,
      fun hg => ?_, fun hg => ?_⟩⟩
    · rw [hx, if_pos hw, ← hb, hnew]
      rfl
    · rw [hx, if_neg (Nat.not_lt.mpr hw), hb, hg, hd]
      rfl
    · rw [hx, if_neg (Nat.not_lt.mpr hw), hb, hg]
      rfl
  · show execResponseTimerExpiry s = _
    simp only [execResponseTimerExpiry, ht, hr, if_true]
    cases t.phase <;> rfl
  · show execResponseTimerExpiry s = _
    unfold execResponseTimerExpiry
    split
    · next t ht => simp [hn t ht]
    · rfl

end Sys2Proof.Machine

/-! ## The cycles and the end of a hold: HOLD_CYCLE -/

namespace Sys2Proof.Machine

set_option Elab.async false

/-! ### HOLD_CYCLE's checks (R117, R188) -/

theorem parseHoldCycle_of_short {p : List Byte} (h : p.length < 6) : parseHoldCycle p = none := by
  match p, h with
  | [], _ | [_], _ | [_, _], _ | [_, _, _], _ | [_, _, _, _], _ | [_, _, _, _, _], _ => rfl

/-- The fixed fields and the data, whose length the command code gives. -/
theorem parseHoldCycle_eq (sl cmd a0 a1 a2 n : Byte) (data : List Byte) :
    parseHoldCycle ([sl, cmd, a0, a1, a2, n] ++ data) =
      if data.length = (if (Command.ofCode cmd).any Command.carriesData then n.toNat else 0) then
        some { slot := sl, command := cmd, addr := le24 a0 a1 a2, count := n.toNat, data := data }
      else none := rfl

theorem dataLength_eq (k : Command) (n : Nat) :
    (if (some k).any Command.carriesData then n else 0) = if k = .write ∨ k = .unlockWrite then n else 0 := by
  simp only [Option.any_some, carriesData_iff]

/-- The range checks of R117, command by command. -/
theorem Command.fits_iff (k : Command) (addr : ModAddr) (n : Nat) :
    k.fits addr n = true ↔
      (k = .read ∨ k = .write → 1 ≤ n ∧ addr.toNat % 64 + n ≤ 64) ∧
      (k = .lockRead ∨ k = .unlockWrite ∨ k = .unlock → n = 4 ∧ addr.toNat % 4 = 0) := by
  cases k with
  | read | write => simp [Command.fits]; omega
  | lockRead | unlockWrite | unlock => simp [Command.fits]

theorem holdUsable_iff (s : State) : holdUsable s = true ↔ s.hold.state = .held ∧ s.hold.endCause = none := by
  simp [holdUsable]

/-! ### HOLD_CYCLE of an accepted request -/

section Cycle

variable {seq : Byte} {payload : List Byte} {s : State} {f : CycleFields}

theorem exec_holdCycle (ha : Accepts Kind.holdCycle seq payload s) :
    exec (.holdCycle seq payload) s = .next (holdCycleOwner payload (reqId Kind.holdCycle seq payload s)
      (s.accepted Kind.holdCycle seq payload)) := exec_of_accepts rfl rfl ha

theorem exec_holdCycle_malformed (ha : Accepts Kind.holdCycle seq payload s) (hp : parseHoldCycle payload = none) :
    exec (.holdCycle seq payload) s = .next (s.answered Kind.holdCycle seq payload .malformed []) := by
  rw [exec_holdCycle ha]
  simp [holdCycleOwner, hp]

variable (ha : Accepts Kind.holdCycle seq payload s) (hp : parseHoldCycle payload = some f)

include ha hp

theorem exec_holdCycle_unnamed (h : slotOfByte f.slot = none ∨ Command.ofCode f.command = none) :
    exec (.holdCycle seq payload) s = .next (s.answered Kind.holdCycle seq payload .range []) := by
  rw [exec_holdCycle ha]
  simp only [holdCycleOwner, hp]
  split
  · next hi hk => simp [hi, hk] at h
  · simp

variable {i : SlotId} {k : Command} (hi : slotOfByte f.slot = some i) (hk : Command.ofCode f.command = some k)

include hi hk

theorem exec_holdCycle_unfit (hf : k.fits f.addr f.count = false) :
    exec (.holdCycle seq payload) s = .next (s.answered Kind.holdCycle seq payload .range []) := by
  rw [exec_holdCycle ha]
  simp [holdCycleOwner, hp, hi, hk, hf]

variable (hf : k.fits f.addr f.count = true)

include hf

theorem exec_holdCycle_notHeld (h : holdUsable s = false) :
    exec (.holdCycle seq payload) s = .next (s.answered Kind.holdCycle seq payload .notHeld []) := by
  have h' : holdUsable (s.accepted Kind.holdCycle seq payload) = false := h
  rw [exec_holdCycle ha]
  simp [holdCycleOwner, hp, hi, hk, hf, h']

theorem exec_holdCycle_taken (h : holdUsable s = true) :
    exec (.holdCycle seq payload) s = .next (takeCycle
      { req := reqId Kind.holdCycle seq payload s, slot := i, command := k, addr := f.addr, count := f.count
        data := f.data } (s.accepted Kind.holdCycle seq payload)) := by
  have h' : holdUsable (s.accepted Kind.holdCycle seq payload) = true := h
  rw [exec_holdCycle ha]
  simp [holdCycleOwner, hp, hi, hk, hf, h']

end Cycle

/-! ### The start of a cycle (R65, R66, R68, R117, R118) -/

/-- A cycle's transaction on the backplane, with the phase and timer that R66 and R68 give its command. -/
def Cycle.startedTx (c : Cycle) (timeout : Nat) : Tx :=
  { requester := .hold, command := c.command, slot := c.slot, addr := c.addr, count := c.count, writeData := c.data
    phase := if c.command = .write ∨ c.command = .unlockWrite then .request else .wait
    timer := if c.command = .write ∨ c.command = .unlockWrite then none else some timeout }

theorem startCycles_started {d : Cycle} {s : State} (hr : s.resetLine d.slot = false) (hp : s.present d.slot = true)
    (rest : List Cycle) :
    startCycles (d :: rest) s = { s with
      hold := { s.hold with cycle := some d, cycles := rest }
      ctrl := { s.ctrl with tx := some (d.startedTx s.params.responseTimeout) } } := by
  rw [startCycles_of_ready ((linesReady_iff ..).mpr ⟨hr, hp⟩), putTx_eq]
  simp only [Cycle.tx, Cycle.startedTx, carriesData_iff]

theorem startCycles_absent {d : Cycle} {s : State} (h : s.resetLine d.slot = true ∨ s.present d.slot = false)
    (rest : List Cycle) :
    startCycles (d :: rest) s =
      startCycles rest { queueReply d.req .ok [0x06] s with ctrl := { s.ctrl with tx := none } } := by
  rw [startCycles_of_not_ready, queueReply_eq, queueReply_eq]
  rw [Bool.eq_false_iff, Ne, linesReady_iff]
  rcases h with h | h <;> simp [h]

/-- With no cycle in progress and none queued a taken cycle is started. -/
theorem takeCycle_of_free {s : State} (hc : s.hold.cycle = none) (hq : s.hold.cycles = []) (c : Cycle) :
    takeCycle c s = startCycles [c] s := by
  simp [takeCycle, hc, hq]

theorem takeCycle_of_busy {s : State} (hc : s.hold.cycle ≠ none) (c : Cycle) :
    takeCycle c s = { s with hold := { s.hold with cycles := s.hold.cycles ++ [c] } } := by
  rw [takeCycle, if_pos (Option.isSome_iff_ne_none.mpr hc)]

/-- The only cycle, ABSENT at its start, is answered and leaves the hold unit and the backplane as they were. -/
theorem startCycles_absent_alone {d : Cycle} {s : State} (h : s.resetLine d.slot = true ∨ s.present d.slot = false)
    (hc : s.hold.cycle = none) (hq : s.hold.cycles = []) (ht : s.ctrl.tx = none) :
    startCycles [d] s = queueReply d.req .ok [0x06] s := by
  have hh : { s.hold with cycle := none, cycles := [] } = s.hold := by rw [← hc, ← hq]
  have hx : { s.ctrl with tx := none } = s.ctrl := by rw [← ht]
  rw [startCycles_absent h, startCycles, queueReply_eq]
  simp only [hh, hx]

/-- Settles O35: the payload, the fields and the hold in the order of R117, then the start by the slot's lines. -/
theorem holdCycle : Obligations.HoldCycle := by
  refine ⟨fun seq payload s ha hl => exec_holdCycle_malformed ha (parseHoldCycle_of_short hl), ?_⟩
  intro seq sl cmd a0 a1 a2 n data payload s hpay ha
  have hparse := parseHoldCycle_eq sl cmd a0 a1 a2 n data
  rw [← hpay] at hparse
  refine ⟨fun k hk => ?_, fun hk => ?_⟩
  · rw [hk, dataLength_eq] at hparse
    refine ⟨fun hd => exec_holdCycle_malformed ha (by rw [hparse, if_neg hd]), fun hd => ?_⟩
    rw [if_pos hd] at hparse
    refine ⟨fun hbad => ?_, fun hline hlock i c hi hc => ?_⟩
    · rcases Nat.lt_or_ge 15 sl.toNat with hs | hs
      · exact exec_holdCycle_unnamed ha hparse (.inl (slotOfByte_eq_none hs))
      · refine exec_holdCycle_unfit ha hparse (slotOfByte_eq_some hs) hk ?_
        rw [Bool.eq_false_iff, Ne, Command.fits_iff]
        rintro ⟨h1, h2⟩
        rcases hbad with hbad | ⟨hrw, hbad⟩ | ⟨hlk, hbad⟩
        · omega
        · have := h1 hrw
          dsimp only at this
          omega
        · have := h2 hlk
          dsimp only at this
          omega
    · have hslot := slotOfByte_of_val hi
      have hfit := (Command.fits_iff k (le24 a0 a1 a2) n.toNat).mpr ⟨hline, hlock⟩
      have htaken : s.hold.state = .held → s.hold.endCause = none → exec (.holdCycle seq payload) s =
          .next (takeCycle c (s.accepted Kind.holdCycle seq payload)) := fun hs he => by
        rw [exec_holdCycle_taken ha hparse hslot hk hfit ((holdUsable_iff s).mpr ⟨hs, he⟩), hc]
      have hcs : c.slot = i := by rw [hc]
      refine ⟨fun hno => ?_, fun hs he hb => ?_, fun hs he hn hq hr hp => ?_, fun hs he hn hq ht hno => ?_⟩
      · refine exec_holdCycle_notHeld ha hparse hslot hk hfit ?_
        rw [Bool.eq_false_iff, Ne, holdUsable_iff]
        rintro ⟨hs, he⟩
        exact hno.elim (fun h => h hs) fun h => h he
      · rw [htaken hs he, takeCycle_of_busy (by exact hb)]
        rfl
      · rw [htaken hs he, takeCycle_of_free (by exact hn) (by exact hq),
          startCycles_started (by rw [hcs]; exact hr) (by rw [hcs]; exact hp), hc, ← hq]
        rfl
      · rw [htaken hs he, takeCycle_of_free (by exact hn) (by exact hq),
          startCycles_absent_alone (by rw [hcs]; exact hno) (by exact hn) (by exact hq) (by exact ht), hc,
          queueReply_accepted]
  · rw [hk] at hparse
    refine ⟨fun hd => exec_holdCycle_malformed ha ?_, fun hd => ?_⟩
    · rw [hparse, if_neg (by simpa using hd)]
    · rw [if_pos (by simp [hd])] at hparse
      exact exec_holdCycle_unnamed ha hparse (.inr hk)

/-! ### The end of a cycle and of a hold (R118, R121, R122, R159) -/

/-- A cycle's reply carries data exactly for an ACKed READ or LOCK_READ (R189). -/
theorem answerCycle_eq (c : Cycle) (r : Result) (data : List Byte) (s : State) :
    answerCycle c r data s =
      queueReply c.req .ok (r.code :: if r = .ack ∧ (c.command = .read ∨ c.command = .lockRead) then data else []) s := by
  have hd : c.command.returnsData = true ↔ c.command = .read ∨ c.command = .lockRead := by
    cases c.command <;> simp [Command.returnsData]
  simp only [answerCycle, hd]

/-- The state in which the cycle in progress has been answered and is over. -/
def State.cycleEnded (s : State) (c : Cycle) (r : Result) (data : List Byte) : State :=
  { queueReply c.req .ok (r.code :: if r = .ack ∧ (c.command = .read ∨ c.command = .lockRead) then data else []) s with
    hold := { s.hold with cycle := none } }

theorem cycleResult_eq {s : State} {c : Cycle} (hc : s.hold.cycle = some c) (r : Result) (data : List Byte) :
    cycleResult r data s =
      if s.hold.endCause.isSome then holdMayEnd (s.cycleEnded c r data)
      else startCycles s.hold.cycles (s.cycleEnded c r data) := by
  have he : answerCycle c r data { s with hold := { s.hold with cycle := none } } = s.cycleEnded c r data := by
    rw [answerCycle_eq, State.cycleEnded, queueReply_eq, queueReply_eq]
  simp only [cycleResult, hc, he]
  rfl

theorem noteHoldEnd_replies (limit : Nat) (s : State) : (noteHoldEnd limit s).link.replies = s.link.replies := by
  unfold noteHoldEnd Link.holdEndSetAgain
  split
  · dsimp only
    split <;> rfl
  · rfl

/-- What the end of a hold adds to the reply queue: NOT_HELD to each queued cycle, then OK to an owed release (R121). -/
theorem endHold_replies (s : State) :
    (endHold s).link.replies = s.link.replies ++
      ((s.hold.cycles.filter fun c => c.req.session = s.link.session).map fun c => c.req.reply .notHeld []) ++
      (match s.hold.releaseReply with
       | some r => if r.session = s.link.session then [r.reply .ok []] else []
       | none => []) := by
  have hq : (queueOwed s.hold.releaseReply .ok [] (queueReplies (s.hold.cycles.map Cycle.req) .notHeld [] s)).link.replies =
      s.link.replies ++
      ((s.hold.cycles.filter fun c => c.req.session = s.link.session).map fun c => c.req.reply .notHeld []) ++
      (match s.hold.releaseReply with
       | some r => if r.session = s.link.session then [r.reply .ok []] else []
       | none => []) := by
    rw [queueOwed_eq, queueReplies_eq]
    simp only [List.filter_map, List.map_map]
    rfl
  rw [← hq]
  unfold endHold
  dsimp only
  simp only [queueReplies_frame]
  split
  · exact noteHoldEnd_replies ..
  · rfl

theorem noteHoldEnd_holdEnd (limit : Nat) (s : State) :
    (noteHoldEnd limit s).notices.holdEnd =
      if s.notices.holdEnabled = true then some limit else s.notices.holdEnd := by
  unfold noteHoldEnd
  split <;> rfl

/-- HOLD_END is pending only after an expiry, and only while it is enabled (R122, R159). -/
theorem endHold_holdEnd (s : State) :
    (endHold s).notices.holdEnd =
      if s.hold.endCause = some .expiry ∧ s.notices.holdEnabled = true then some (s.hold.limit.getD 0)
      else s.notices.holdEnd := by
  by_cases h : s.hold.endCause = some .expiry <;> simp [endHold, h, returnGrant, noteHoldEnd_holdEnd]

/-- Settles O36: the end of a cycle by `cycleResult_eq`, the start of the next by the slot's lines, and the end of a hold
field by field. -/
theorem holdEnding : Obligations.HoldEnding := by
  refine ⟨fun s c r data hc => ⟨fun he hq => ?_, fun he => ?_, fun hs he => ?_⟩,
    fun s d rest => ⟨rfl, fun hr hp => startCycles_started hr hp rest, fun h => startCycles_absent h rest⟩,
    fun s => ⟨endHold_hold s, endHold_arb s, endHold_replies s, endHold_holdEnd s, by simp⟩⟩
  · rw [cycleResult_eq hc, if_neg (by simp [he]), hq, startCycles, ← hq]
    rfl
  · rw [cycleResult_eq hc, if_neg (by simp [he])]
    rfl
  · rw [cycleResult_eq hc, if_pos (Option.isSome_iff_ne_none.mpr he), holdMayEnd, if_pos]
    · rfl
    · exact ⟨hs, Option.isSome_iff_ne_none.mpr he, rfl⟩

end Sys2Proof.Machine

/-! ## The grant to INBOUND -/

namespace Sys2Proof.Machine

set_option Elab.async false

/-! ### Selection (R133) -/

theorem slotIds_eq : slotIds = List.finRange 16 := by decide

theorem selectSlot_of_none {s : State} (h : ∀ i, eligible s i = false) : selectSlot s = none :=
  List.find?_eq_none.mpr fun i _ => by simp [h i]

/-- The first eligible slot from the pointer on is selected. -/
theorem selectSlot_of_first {s : State} {k : Fin 16} (h : eligible s (s.inb.pointer + k) = true)
    (hf : ∀ j : Fin 16, j.val < k.val → eligible s (s.inb.pointer + j) = false) :
    selectSlot s = some (s.inb.pointer + k) := by
  refine List.find?_eq_some_iff_getElem.mpr ⟨h, k.val, by simp [searchOrder, slotIds_eq], ?_, fun j hj => ?_⟩
  · simp [searchOrder, slotIds_eq]
  · simpa [searchOrder, slotIds_eq] using hf ⟨j, by omega⟩ hj

/-! ### The grant (R65, R133, R141) -/

/-- An event that settles leaves the state its act leaves, with an arbiter of the same holder. -/
theorem outcome_of_settle {o : Host.Outcome State Fault Refusal} {u : State} (h : o = .next (settle u)) :
    ∃ a, o = .next { u with arb := a } ∧ a.holder = u.arb.holder := ⟨(settle u).arb, h, rfl⟩

section Grant

variable {s : State} (hg : grantDue .inbound s = true)

include hg

theorem exec_inboundGrant_of_none (hs : s.inb.service = none) (hn : selectSlot s = none) :
    exec .inboundGrant s = .next (settle (returnGrant (takeGrant .inbound s))) := by
  have hn' : selectSlot (takeGrant .inbound s) = none := hn
  show execInboundGrant s = _
  simp only [execInboundGrant, hg, if_true, takeGrant_frame, hs, hn']

theorem exec_inboundGrant_of_selected (hs : s.inb.service = none) {i : SlotId} (hi : selectSlot s = some i) :
    exec .inboundGrant s = .next (settle (beginTx (newService i s).tx (selectService i (takeGrant .inbound s)))) := by
  have hi' : selectSlot (takeGrant .inbound s) = some i := hi
  show execInboundGrant s = _
  simp only [execInboundGrant, hg, if_true, takeGrant_frame, hs, hi']
  rfl

theorem exec_inboundGrant_of_good {v : Service} (hs : s.inb.service = some v) (hv : serviceSlotGood v s = true) :
    exec .inboundGrant s = .next (settle (beginTx v.tx (takeGrant .inbound s))) := by
  have hv' : serviceSlotGood v (takeGrant .inbound s) = true := hv
  show execInboundGrant s = _
  simp only [execInboundGrant, hg, if_true, takeGrant_frame, hs, hv']

theorem exec_inboundGrant_of_dropped {v : Service} (hs : s.inb.service = some v) (hv : serviceSlotGood v s = false) :
    exec .inboundGrant s = .next (settle (returnGrant (dropService (takeGrant .inbound s)))) := by
  have hv' : serviceSlotGood v (takeGrant .inbound s) = false := hv
  show execInboundGrant s = _
  simp only [execInboundGrant, hg, if_true, takeGrant_frame, hs, hv', Bool.false_eq_true, if_false]

end Grant

/-! ### The transaction of a service (R66, R68, R134, R138, R139) -/

section Service

variable {s : State}

/-- The transaction of a service on the backplane, with the phase and timer that R66 and R68 give its command. -/
def Service.startedTx (v : Service) (timeout : Nat) : Tx :=
  { v.tx with
    phase := if v.tx.command.carriesData then .request else .wait
    timer := if v.tx.command.carriesData then none else some timeout }

/-- A service's transaction to a slot in service that is present is put on the backplane. -/
theorem beginTx_service {v : Service} {u : State} (hi : (u.slot v.slot).state.inService = true)
    (hp : u.present v.slot = true) :
    beginTx v.tx u = { u with ctrl := { u.ctrl with tx := some (v.startedTx u.params.responseTimeout) } } := by
  have hs : v.tx.slot = v.slot := by
    unfold Service.tx
    split <;> rfl
  rw [beginTx_of_ready (by rw [hs]; exact (linesReady_iff ..).mpr ⟨resetLine_of_inService hi, hp⟩), putTx_eq]
  rfl

theorem Service.startedTx_header {v : Service} (h : v.step = .header) (timeout : Nat) :
    v.startedTx timeout =
      { requester := .inbound, command := .read, slot := v.slot, addr := v.postAddr, count := 4
        phase := .wait, timer := some timeout } := by
  simp [Service.startedTx, Service.tx, h, Command.carriesData]

theorem Service.startedTx_body {v : Service} (h : v.step = .body) (timeout : Nat) :
    v.startedTx timeout =
      { requester := .inbound, command := .read, slot := v.slot, addr := v.bodyAddr, count := v.bodyCount
        phase := .wait, timer := some timeout } := by
  simp [Service.startedTx, Service.tx, h, Command.carriesData]

theorem Service.startedTx_take {v : Service} (h : v.step = .take ∨ v.step = .discardTake) (timeout : Nat) :
    v.startedTx timeout =
      { requester := .inbound, command := .write, slot := v.slot, addr := v.takeAddr, count := 4
        writeData := [v.tag, 0, 0, 0], phase := .request, timer := none } := by
  rcases h with h | h <;> simp [Service.startedTx, Service.tx, h, Command.carriesData]

theorem inService_of_eligible {i : SlotId} (h : eligible s i = true) : (s.slot i).state.inService = true := by
  simp only [eligible, Bool.and_eq_true] at h
  obtain ⟨⟨⟨⟨⟨-, hi⟩, -⟩, -⟩, -⟩, -⟩ := h
  exact hi

theorem newService_eq {i : SlotId} {d : Descriptor} (hd : (s.slot i).descriptor = some d) :
    newService i s =
      { slot := i, epoch := (s.slot i).epoch, postAddr := d.postAddr, step := .header } := by
  simp [newService, hd]

theorem serviceSlotGood_iff (v : Service) (s : State) :
    serviceSlotGood v s = true ↔ (s.slot v.slot).state.inService = true ∧ (s.slot v.slot).epoch = v.epoch := by
  simp [serviceSlotGood]

end Service

/-- Settles O41: the selection by the search order, the next transaction by the service's step, and a dropped service by
`dropService_eq`. -/
theorem inboundGrant : Obligations.InboundGrant := by
  intro s hg
  refine ⟨fun hs hn => ?_, fun k i d hs hi he hf hd hp => ?_, fun v hs hin hep hp => ?_, fun v room hs hbad hroom => ?_⟩
  · exact outcome_of_settle (exec_inboundGrant_of_none hg hs (selectSlot_of_none hn))
  · subst hi
    have hx := exec_inboundGrant_of_selected hg hs (selectSlot_of_first he hf)
    rw [beginTx_service (inService_of_eligible (by exact he)) (by exact hp), Service.startedTx_header (by rfl)] at hx
    obtain ⟨a, ha, hh⟩ := outcome_of_settle hx
    refine ⟨a, ha.trans ?_, hh⟩
    rw [newService_eq hd, selectService, newService_eq (by exact hd)]
    rfl
  · have hx := exec_inboundGrant_of_good hg hs ((serviceSlotGood_iff v s).mpr ⟨hin, hep⟩)
    rw [beginTx_service (by exact hin) (by exact hp)] at hx
    obtain ⟨a, ha, hh⟩ := outcome_of_settle hx
    refine ⟨a, v.startedTx s.params.responseTimeout, ha, hh, fun h => v.startedTx_header h _, fun m h hm => ?_,
      fun h => v.startedTx_take h _⟩
    rw [v.startedTx_body h, hm]
    rfl
  · have hno : serviceSlotGood v s = false := by
      rw [Bool.eq_false_iff, Ne, serviceSlotGood_iff]
      rintro ⟨hi, he⟩
      exact hbad.elim (fun h => by simp [hi] at h) fun h => h he
    have hx := exec_inboundGrant_of_dropped hg hs hno
    rw [dropService_eq] at hx
    obtain ⟨a, ha, hh⟩ := outcome_of_settle hx
    refine ⟨a, ha.trans ?_, hh⟩
    subst hroom
    rfl

end Sys2Proof.Machine

/-! ## Slots: the rules of the slot supervisor

What each act of the supervisor makes of the slot's record, the work list and the notices, each said once. -/

namespace Sys2Proof.Machine

set_option Elab.async false

/-! ### Changes of state (R87, R92, R105, R107) -/

section Change

variable {i : SlotId} {s : State}

/-- A slot whose record is changed as it changes its state, without leaving its service: the record and the pending
notice. -/
theorem changeState_modifySlot {f : Slot → Slot} {state : SlotState}
    (h : (f (s.slot i)).state.inService = true → state.inService = true) (cause : LastCause) :
    changeState i state cause (s.modifySlot i f) = { s with
      sup := { s.sup with slots := s.sup.slots.set i { f (s.slot i) with state := state, lastCause := cause } }
      notices := { s.notices with slotPending :=
        if s.notices.slotEnabled = true then s.notices.slotPending.set i true else s.notices.slotPending } } := by
  have hs : ((f (s.slot i)).state.inService && !state.inService) = false := by
    cases hf : (f (s.slot i)).state.inService with
    | false => rfl
    | true => rw [h hf]; rfl
  rw [changeState_eq, modifySlot_slot_self, hs]
  simp only [State.modifySlot, Vector.set_set]
  rfl

/-- The record of a slot out of service once its presence has been sampled (R105, R107). -/
theorem samplePresence_eq (h : (s.slot i).state.inService = false) (cause : LastCause) :
    samplePresence i cause s = { s with
      sup := { s.sup with
        slots := s.sup.slots.set i
          (if s.present i = true then
            { s.slot i with state := .settling, lastCause := cause
                            timer := some { kind := .settle, ms := s.params.settleTime } }
           else { s.slot i with state := .empty, lastCause := cause, timer := none }) }
      notices := { s.notices with slotPending :=
        if s.notices.slotEnabled = true then s.notices.slotPending.set i true else s.notices.slotPending } } := by
  unfold samplePresence
  split
  · rw [enterSettling, changeState_timer h]
  · rw [changeState_timer h]

/-- A slot out of service enters ENROLLING with its first attempt begun (R92). -/
theorem beginEnrollment_eq (h : (s.slot i).state.inService = false) (cause : LastCause) :
    beginEnrollment i cause s = { s with
      sup := { slots := s.sup.slots.set i { s.slot i with
                 state := .enrolling, lastCause := cause, attempts := 1, attemptCause := none
                 step := .descriptorRead, timer := none }
               work := s.sup.work ++ [{ slot := i, read := .descriptor }] }
      notices := { s.notices with slotPending :=
        if s.notices.slotEnabled = true then s.notices.slotPending.set i true else s.notices.slotPending } } := by
  rw [beginEnrollment, changeState_modifySlot (by simp [h]), beginAttempt, addItem]
  simp [State.modifySlot, Vector.set_set]

end Change

/-! ### SLOT_GET, SLOT_ON and SLOT_ENROLL (R96, R107, R108) -/

theorem onSlotAgain_of_off {i : SlotId} {s : State} (h : (s.slot i).state = .off) (r : ReqId) :
    onSlotAgain i r s = queueReply r .ok [] (samplePresence i .on s) := by
  rw [onSlotAgain, if_pos h]

theorem onSlotAgain_refused {i : SlotId} {s : State} (h : (s.slot i).state ≠ .off) (r : ReqId) :
    onSlotAgain i r s = queueReply r .wrongState [] s := by
  rw [onSlotAgain, if_neg h]

/-- Settles O25: each request by the ways a payload can name a slot, SLOT_ON then by the slot's state. -/
theorem slotGetAndOn : Obligations.SlotGetAndOn := by
  intro seq payload s
  refine ⟨fun ha => ?_, fun ha => ?_⟩
  · have hx : exec (.slotGet seq payload) s = .next (onSlot payload getSlot (reqId Kind.slotGet seq payload s)
        (s.accepted Kind.slotGet seq payload)) := exec_of_accepts rfl rfl ha
    rw [hx]
    refine ⟨fun hp => ?_, fun b hb => ⟨fun hbig => ?_, fun i hi => ?_⟩⟩
    · rw [onSlot_malformed hp, queueReply_accepted]
    · subst hb
      rw [onSlot_range hbig, queueReply_accepted]
    · subst hb
      rw [onSlot_of_slot hi, getSlot, queueReply_accepted, accepted_slot, accepted_present, Slot.bytes]
      cases (s.slot i).descriptor <;> rfl
  · have hx : exec (.slotOn seq payload) s = .next (onSlot payload onSlotAgain (reqId Kind.slotOn seq payload s)
        (s.accepted Kind.slotOn seq payload)) := exec_of_accepts rfl rfl ha
    rw [hx]
    refine ⟨fun hp => ?_, fun b hb => ⟨fun hbig => ?_, fun i hi => ⟨fun hno => ?_, fun hoff => ?_⟩⟩⟩
    · rw [onSlot_malformed hp, queueReply_accepted]
    · subst hb
      rw [onSlot_range hbig, queueReply_accepted]
    · subst hb
      rw [onSlot_of_slot hi, onSlotAgain_refused (by exact hno), queueReply_accepted]
    · subst hb
      have hout : (s.slot i).state.inService = false := by rw [hoff]; rfl
      rw [onSlot_of_slot hi, onSlotAgain_of_off (by exact hoff), samplePresence_eq (by exact hout),
        queueReply_of_session (by rfl)]
      rfl

theorem enrollSlot_of_present {i : SlotId} {s : State} (h : (s.slot i).state = .present) (r : ReqId) :
    enrollSlot i r s = settle { s with
      sup := { slots := s.sup.slots.set i { s.slot i with
                 state := .enrolling, attempts := 1, attemptCause := none, step := .descriptorRead, timer := none
                 enrollReply := some r }
               work := s.sup.work ++ [{ slot := i, read := .descriptor }] }
      notices := { s.notices with slotPending :=
        if s.notices.slotEnabled = true then s.notices.slotPending.set i true else s.notices.slotPending } } := by
  have hout : ((s.modifySlot i fun x => { x with enrollReply := some r }).slot i).state.inService = false := by
    rw [modifySlot_slot_self]
    simp [h, SlotState.inService]
  rw [enrollSlot, if_pos h, beginEnrollment_eq hout, modifySlot_slot_self]
  simp only [State.modifySlot, Vector.set_set]
  rfl

theorem enrollSlot_refused {i : SlotId} {s : State} (h : (s.slot i).state ≠ .present) (r : ReqId) :
    enrollSlot i r s = queueReply r .wrongState [] s := by
  rw [enrollSlot, if_neg h]

/-- Settles O26: the request by its payload and the slot's state, the owed reply by `enrollDown_eq`. -/
theorem slotEnroll : Obligations.SlotEnroll := by
  refine ⟨fun seq payload s ha => ?_, fun s i => ?_⟩
  · have hx : exec (.slotEnroll seq payload) s = .next (onSlot payload enrollSlot
        (reqId Kind.slotEnroll seq payload s) (s.accepted Kind.slotEnroll seq payload)) := exec_of_accepts rfl rfl ha
    rw [hx]
    refine ⟨fun hp => ?_, fun b hb => ⟨fun hbig => ?_, fun i hi => ⟨fun hno => ?_, fun hpres => ?_⟩⟩⟩
    · rw [onSlot_malformed hp, queueReply_accepted]
    · subst hb
      rw [onSlot_range hbig, queueReply_accepted]
    · subst hb
      rw [onSlot_of_slot hi, enrollSlot_refused (by exact hno), queueReply_accepted]
    · subst hb
      rw [onSlot_of_slot hi, enrollSlot_of_present (by exact hpres)]
      rfl
  · rw [enrollDown_eq, State.owedReply]
    rfl

end Sys2Proof.Machine

/-! ## Slots: timers, heartbeat checks and the supervisor's judgement -/

namespace Sys2Proof.Machine

set_option Elab.async false

/-! ### A failed check, a passed one and a skipped one (R98-R100) -/

section Checks

variable {i : SlotId} {s : State}

theorem failCheck_of_active (h : (s.slot i).state = .active) :
    failCheck i s =
      if 1 < s.params.lagLimit then changeState i .lagging .lag (s.modifySlot i fun r => { r with lag := 1 })
      else enterFaulted i .lagging (s.modifySlot i fun r => { r with lag := 1 }) := by
  unfold failCheck
  rw [h]
  rfl

theorem failCheck_of_lagging (h : (s.slot i).state = .lagging) :
    failCheck i s =
      if s.params.lagLimit ≤ (s.slot i).lag + 1 then
        enterFaulted i .lagging (s.modifySlot i fun r => { r with lag := r.lag + 1 })
      else s.modifySlot i fun r => { r with lag := r.lag + 1 } := by
  unfold failCheck
  rw [h]
  dsimp only
  rw [modifySlot_slot_self]
  rfl

/-- R100: the first failed check of an ACTIVE slot under LAG_LIMIT; a failed check clears the skip count. -/
theorem failCheck_active (ha : (s.slot i).state = .active) (hl : 1 < s.params.lagLimit) :
    failCheck i (s.modifySlot i fun r => { r with skip := 0 }) = { s with
      sup := { s.sup with
        slots := s.sup.slots.set i { s.slot i with state := .lagging, lastCause := .lag, lag := 1, skip := 0 } }
      notices := { s.notices with slotPending :=
        if s.notices.slotEnabled = true then s.notices.slotPending.set i true else s.notices.slotPending } } := by
  rw [failCheck_of_active (by rwa [modifySlot_slot_self]), if_pos (by exact hl), modifySlot_modifySlot]
  exact changeState_modifySlot (fun _ => rfl) .lag

theorem failCheck_active_faulted (ha : (s.slot i).state = .active) (hl : s.params.lagLimit ≤ 1) :
    failCheck i (s.modifySlot i fun r => { r with skip := 0 }) = enterFaulted i .lagging { s with
      sup := { s.sup with slots := s.sup.slots.set i { s.slot i with lag := 1, skip := 0 } } } := by
  rw [failCheck_of_active (by rwa [modifySlot_slot_self]), if_neg (by exact Nat.not_lt.mpr hl), modifySlot_modifySlot]
  rfl

theorem failCheck_lagging (ha : (s.slot i).state = .lagging) (hl : (s.slot i).lag + 1 < s.params.lagLimit) :
    failCheck i (s.modifySlot i fun r => { r with skip := 0 }) = { s with sup := { s.sup with
      slots := s.sup.slots.set i { s.slot i with lag := (s.slot i).lag + 1, skip := 0 } } } := by
  rw [failCheck_of_lagging (by rwa [modifySlot_slot_self]), modifySlot_slot_self, if_neg (by exact Nat.not_le.mpr hl),
    modifySlot_modifySlot]
  rfl

theorem failCheck_lagging_faulted (ha : (s.slot i).state = .lagging) (hl : s.params.lagLimit ≤ (s.slot i).lag + 1) :
    failCheck i (s.modifySlot i fun r => { r with skip := 0 }) = enterFaulted i .lagging { s with
      sup := { s.sup with slots := s.sup.slots.set i { s.slot i with lag := (s.slot i).lag + 1, skip := 0 } } } := by
  rw [failCheck_of_lagging (by rwa [modifySlot_slot_self]), modifySlot_slot_self, if_pos (by exact hl),
    modifySlot_modifySlot]
  rfl

/-- R98: a good check of an ACTIVE slot. -/
theorem passCheck_active (ha : (s.slot i).state = .active) (word : Word) :
    passCheck i word s = { s with sup := { s.sup with
      slots := s.sup.slots.set i { s.slot i with heartbeat := word, lag := 0, skip := 0 } } } := by
  unfold passCheck
  dsimp only
  rw [modifySlot_slot_self, if_neg (by simp [ha])]
  rfl

/-- R98: a good check returns a LAGGING slot to ACTIVE. -/
theorem passCheck_lagging (ha : (s.slot i).state = .lagging) (word : Word) :
    passCheck i word s = { s with
      sup := { s.sup with
        slots := s.sup.slots.set i { s.slot i with
          heartbeat := word, lag := 0, skip := 0, state := .active, lastCause := .recovered } }
      notices := { s.notices with slotPending :=
        if s.notices.slotEnabled = true then s.notices.slotPending.set i true else s.notices.slotPending } } := by
  unfold passCheck
  dsimp only
  rw [modifySlot_slot_self, if_pos ha]
  exact changeState_modifySlot (fun _ => rfl) .recovered

/-- R99: a skip under the allowance is counted. -/
theorem skipCheck_counted (h : (s.slot i).skip < s.params.skipAllowance) :
    skipCheck i s = { s with sup := { s.sup with
      slots := s.sup.slots.set i { s.slot i with skip := (s.slot i).skip + 1 } } } := by
  rw [skipCheck, if_pos h]
  rfl

/-- R99: a skip at the allowance is a failed check. -/
theorem skipCheck_failed (h : s.params.skipAllowance ≤ (s.slot i).skip) :
    skipCheck i s = failCheck i (s.modifySlot i fun r => { r with skip := 0 }) := by
  rw [skipCheck, if_neg (Nat.not_lt.mpr h)]

end Checks

/-! ### The timers' expiries (R88, R92, R95, R97, R105) -/

section Timers

variable {i : SlotId} {s : State} {k : TimerKind} {ms : Nat}

theorem timerRuns_of_timer (h : (s.slot i).timer = some { kind := k, ms := ms }) : timerRuns i k s = true := by
  simp [timerRuns, h]

theorem timerRuns_of_stopped (h : (s.slot i).timer = none) (k : TimerKind) : timerRuns i k s = false := by
  simp [timerRuns, h]

theorem exec_settleTimerExpiry (hs : (s.slot i).state = .settling)
    (ht : (s.slot i).timer = some { kind := .settle, ms := ms }) :
    exec (.settleTimerExpiry i) s = .next (settle
      (if s.params.autoEnroll then beginEnrollment i .settled s
       else changeState i .present .settled (s.modifySlot i fun r => { r with timer := none }))) := by
  show execSettleTimerExpiry i s = _
  rw [execSettleTimerExpiry, if_pos ⟨hs, timerRuns_of_timer ht⟩]

theorem exec_attemptGapExpiry (hs : (s.slot i).state = .enrolling)
    (ht : (s.slot i).timer = some { kind := .gap, ms := ms }) :
    exec (.attemptGapExpiry i) s = .next (settle (beginAttempt i s)) := by
  show execAttemptGapExpiry i s = _
  rw [execAttemptGapExpiry, if_pos ⟨hs, timerRuns_of_timer ht⟩]

theorem exec_pulseTimerExpiry (hs : (s.slot i).state = .resetting)
    (ht : (s.slot i).timer = some { kind := .pulse, ms := ms }) :
    exec (.pulseTimerExpiry i) s = .next (samplePresence i (s.slot i).lastCause s) := by
  show execPulseTimerExpiry i s = _
  rw [execPulseTimerExpiry, if_pos ⟨hs, timerRuns_of_timer ht⟩]

theorem exec_checkTimerExpiry (hs : (s.slot i).state.inService = true)
    (ht : (s.slot i).timer = some { kind := .check, ms := ms }) :
    exec (.checkTimerExpiry i) s =
      .next (settle (checkDue i (s.modifySlot i fun r => { r with timer := checkTimer s.params }))) := by
  show execCheckTimerExpiry i s = _
  rw [execCheckTimerExpiry, if_pos ⟨hs, timerRuns_of_timer ht⟩]

/-- A timer that does not run expires nowhere (log 3). -/
theorem exec_expiry_of_stopped (h : (s.slot i).timer = none) :
    exec (.settleTimerExpiry i) s = .next s ∧ exec (.attemptGapExpiry i) s = .next s ∧
      exec (.checkTimerExpiry i) s = .next s ∧ exec (.pulseTimerExpiry i) s = .next s := by
  simp [exec, execSettleTimerExpiry, execAttemptGapExpiry, execCheckTimerExpiry, execPulseTimerExpiry,
    timerRuns_of_stopped h]

theorem checkOnBackplane_iff (i : SlotId) (s : State) :
    checkOnBackplane i s = true ↔
      ∃ t, s.ctrl.tx = some t ∧ t.requester = .supervise ∧ t.slot = i ∧ (s.slot i).step = .none := by
  unfold checkOnBackplane
  split
  · next t ht => simp [ht, and_assoc]
  · next ht => simp [ht]

theorem checkDue_held (h : s.hold.state = .held) : checkDue i s = skipCheck i s := by
  rw [checkDue, if_pos h]

/-- A check that falls due while one is pending merges with it (R97). -/
theorem checkDue_merged (h : s.hold.state ≠ .held)
    (hp : { slot := i, read := .check } ∈ s.sup.work ∨ checkOnBackplane i s = true) : checkDue i s = s := by
  rw [checkDue, if_neg h, if_pos]
  rcases hp with hw | hb
  · have hany : (s.sup.work.any fun w => w.slot = i ∧ w.read = .check) = true :=
      List.any_eq_true.mpr ⟨_, hw, by simp⟩
    rw [hany, Bool.true_or]
  · rw [hb, Bool.or_true]

theorem checkDue_joins (h : s.hold.state ≠ .held) (hw : { slot := i, read := .check } ∉ s.sup.work)
    (hb : checkOnBackplane i s = false) : checkDue i s = addItem i .check s := by
  have hany : (s.sup.work.any fun w => w.slot = i ∧ w.read = .check) = false := by
    rw [List.any_eq_false]
    rintro ⟨j, r⟩ hm hjr
    simp only [decide_eq_true_eq] at hjr
    obtain ⟨rfl, rfl⟩ := hjr
    exact hw hm
  rw [checkDue, if_neg h, if_neg (by rw [hany, hb]; decide)]

end Timers

/-- Settles O28: each expiry by the state its timer runs in, a check that falls due by the hold and the check that is
pending, and a skip by the allowance and LAG_LIMIT. -/
theorem slotTimers : Obligations.SlotTimers := by
  refine ⟨fun s i ms pending hpend => ⟨fun hs ht => ⟨fun ha => ?_, fun ha => ?_⟩, fun hs ht => ?_, fun hs ht => ?_,
    exec_expiry_of_stopped⟩, fun s i ms again running hs ht hagain hrun => ?_,
    fun s i => ⟨skipCheck_counted, fun h => ?_⟩⟩
  · rw [exec_settleTimerExpiry hs ht, if_pos ha, beginEnrollment_eq (by rw [hs]; rfl), hpend]
  · rw [exec_settleTimerExpiry hs ht, if_neg (by simp [ha]), changeState_timer (by rw [hs]; rfl), hpend]
  · rw [exec_attemptGapExpiry hs ht]
    rfl
  · rw [exec_pulseTimerExpiry hs ht, samplePresence_eq (by rw [hs]; rfl), hpend]
  · have hx : exec (.checkTimerExpiry i) s = .next (settle (checkDue i running)) := by
      rw [exec_checkTimerExpiry hs ht, hrun, hagain]
      rfl
    have hstep : (running.slot i).step = (s.slot i).step := by
      rw [hrun]
      simp [State.slot]
    have hback : checkOnBackplane i running = true ↔ ∃ t, s.ctrl.tx = some t ∧ t.requester = .supervise ∧
        t.slot = i ∧ (s.slot i).step = .none := by
      rw [checkOnBackplane_iff, hstep, hrun]
    have hwork : running.sup.work = s.sup.work := by rw [hrun]
    have hhold : running.hold = s.hold := by rw [hrun]
    rw [hx, ← hhold, ← hwork, ← hback]
    refine ⟨fun hh => ?_, fun hh => ⟨fun hp => ?_, fun hw hno => ?_⟩⟩
    · rw [checkDue_held hh]
    · rw [checkDue_merged hh hp]
    · rw [checkDue_joins hh hw]
      · rfl
      · rw [Bool.eq_false_iff, Ne, hback]
        rintro ⟨t, htx, hreq⟩
        exact hno t htx hreq
  · rw [skipCheck_failed h]
    exact ⟨failCheck_active, failCheck_active_faulted, failCheck_lagging, failCheck_lagging_faulted⟩

/-! ### The silence count and the removal (R90, R101, R102) -/

section Takes

variable {i : SlotId} {s : State}

/-- Any result but NO_RESPONSE and ABSENT ends the silence (R101). -/
theorem superviseTakes_heard {r : Result} (hn : r ≠ .noResponse) (ha : r ≠ .absent) :
    superviseTakes i r s = { s with sup := { s.sup with
      slots := s.sup.slots.set i { s.slot i with silence := 0 } } } := by
  cases r with
  | noResponse => exact absurd rfl hn
  | absent => exact absurd rfl ha
  | _ => rfl

theorem superviseTakes_silent
    (h : (s.slot i).state.inService = false ∨ min ((s.slot i).silence + 1) 15 < s.params.silenceLimit) :
    superviseTakes i .noResponse s = { s with sup := { s.sup with
      slots := s.sup.slots.set i { s.slot i with silence := min ((s.slot i).silence + 1) 15 } } } := by
  simp only [superviseTakes, modifySlot_slot_self, modifySlot_frame]
  rw [if_neg]
  · rfl
  · rintro ⟨hs, hl⟩
    rcases h with h | h
    · rw [h] at hs
      cases hs
    · exact Nat.not_le.mpr h hl

/-- The silence count at SILENCE_LIMIT faults a slot in service (R102). -/
theorem superviseTakes_silenced (h : (s.slot i).state.inService = true)
    (hl : s.params.silenceLimit ≤ min ((s.slot i).silence + 1) 15) :
    superviseTakes i .noResponse s = enterFaulted i .silent
      (s.modifySlot i fun r => { r with silence := min (r.silence + 1) 15 }) := by
  simp only [superviseTakes, modifySlot_slot_self, modifySlot_frame]
  rw [if_pos ⟨h, hl⟩]

theorem superviseTakes_absent_kept (h : s.present i = true ∨ (s.slot i).state.removable = false) :
    superviseTakes i .absent s = s := by
  rw [superviseTakes, if_neg]
  rcases h with h | h <;> simp [h]

theorem superviseTakes_absent_removed (hp : s.present i = false) (h : (s.slot i).state.removable = true) :
    superviseTakes i .absent s = removeSlot i s := by
  simp [superviseTakes, hp, h]

end Takes

theorem enterFaulted_slot_self (i : SlotId) (cause : SlotCause) (s : State) :
    (enterFaulted i cause s).slot i = { s.slot i with
      state := .faulted, lastCause := .fault, faultCause := some cause, timer := none, step := .none, held := none
      enrollReply := none } := by
  rw [enterFaulted_eq]
  simp [State.slot]

theorem removeSlot_slot_self (i : SlotId) (s : State) :
    (removeSlot i s).slot i = { (s.slot i).clearedCounts none with
      state := .empty, lastCause := .removed, enrollReply := none } := by
  rw [removeSlot_eq]
  simp [State.slot]

theorem enterFaulted_slot_of_ne {i j : SlotId} (h : i ≠ j) (cause : SlotCause) (s : State) :
    (enterFaulted i cause s).slot j = s.slot j := by
  have h' : i.val ≠ j.val := fun e => h (Fin.ext e)
  rw [enterFaulted_eq]
  simp [State.slot, Vector.getElem_set_ne _ _ h']

/-- The fault record of a slot that enters FAULTED (R103). -/
theorem enterFaulted_faults (i : SlotId) (cause : SlotCause) (s : State) :
    (enterFaulted i cause s).faults = (makeRecord
      { kind := .slot, code := .slot cause, slot := some i, epoch := some (s.slot i).epoch } s).faults := by
  rw [enterFaulted_eq]

theorem removable_iff (st : SlotState) :
    st.removable = true ↔ st ∈ [SlotState.present, .enrolling, .active, .lagging, .faulted] := by
  cases st <;> simp [SlotState.removable]

theorem removable_eq_false_iff (st : SlotState) :
    st.removable = false ↔ st ∈ [SlotState.off, .empty, .settling, .resetting] := by
  cases st <;> simp [SlotState.removable]

/-! ### The result of a check read (R98, R100) -/

section Judge

variable {i : SlotId} {s : State}

/-- With no enrollment step the result of the supervisor's own read is a check's. -/
theorem superviseResult_of_check (hstep : (s.slot i).step = .none) (hs : (s.slot i).state.inService = true)
    (r : Result) (data : List Byte) : superviseResult i r data s = judgeCheck i r data s := by
  have hf : (s.slot i).state ≠ .faulted := fun e => by rw [e] at hs; cases hs
  by_cases ha : r = .absent
  · subst ha
    simp [superviseResult, judgeCheck]
  · simp only [superviseResult, hf, ha, or_self, if_false, hstep]

theorem judgeCheck_passed (hs : (s.slot i).state.inService = true) {data : List Byte}
    (hd : readWord data ≠ (s.slot i).heartbeat) : judgeCheck i .ack data s = passCheck i (readWord data) s := by
  simp only [judgeCheck, hs, if_true, hd, ne_eq, not_false_eq_true]

theorem judgeCheck_failed (hs : (s.slot i).state.inService = true) {r : Result} {data : List Byte}
    (hr : r ∈ [Result.retry, .reject, .dataError, .parity, .noResponse] ∨
      r = .ack ∧ readWord data = (s.slot i).heartbeat) :
    judgeCheck i r data s = failCheck i (s.modifySlot i fun x => { x with skip := 0 }) := by
  unfold judgeCheck
  rw [if_pos hs]
  rcases hr with hr | ⟨rfl, hd⟩
  · cases r with
    | ack | absent => simp at hr
    | _ => rfl
  · simp only [hd, ne_eq, not_true_eq_false, if_false]

/-- A failed check at LAG_LIMIT faults the slot (R100). -/
theorem failCheck_slot_of_limit
    (h : (s.slot i).state = .lagging ∧ s.params.lagLimit ≤ (s.slot i).lag + 1 ∨
      (s.slot i).state = .active ∧ s.params.lagLimit ≤ 1) :
    ((failCheck i (s.modifySlot i fun x => { x with skip := 0 })).slot i).state = .faulted ∧
      ((failCheck i (s.modifySlot i fun x => { x with skip := 0 })).slot i).faultCause = some .lagging := by
  rcases h with ⟨ha, hl⟩ | ⟨ha, hl⟩
  · rw [failCheck_lagging_faulted ha hl, enterFaulted_slot_self]
    exact ⟨rfl, rfl⟩
  · rw [failCheck_active_faulted ha hl, enterFaulted_slot_self]
    exact ⟨rfl, rfl⟩

end Judge

/-- Settles O30: what the supervisor takes from a result by the result, and a check's result by the word read and the
slot's state. -/
theorem supervisorJudges : Obligations.SupervisorJudges := by
  refine ⟨fun s i => ⟨fun r hr => ?_, superviseTakes_silent, fun hs hl => ?_, fun h => ?_, fun hp hs => ?_⟩,
    fun s i data pending hpend hstep => ?_⟩
  · refine superviseTakes_heard (fun e => ?_) (fun e => ?_) <;> simp [e] at hr
  · rw [superviseTakes_silenced hs hl, enterFaulted_slot_self, enterFaulted_faults, modifySlot_slot_self]
    exact ⟨rfl, rfl, rfl, fun j hj => by
      rw [enterFaulted_slot_of_ne hj.symm, modifySlot_slot_of_ne _ _ hj.symm]⟩
  · rw [← removable_eq_false_iff] at h
    exact superviseTakes_absent_kept h
  · rw [superviseTakes_absent_removed hp ((removable_iff _).mpr hs), removeSlot_slot_self]
    exact ⟨rfl, rfl⟩
  · have hactive : (s.slot i).state = .active → (s.slot i).state.inService = true := fun h => by rw [h]; rfl
    have hlagging : (s.slot i).state = .lagging → (s.slot i).state.inService = true := fun h => by rw [h]; rfl
    subst hpend
    refine ⟨fun ha hd => ?_, fun ha hd => ?_, fun r hr => ⟨fun ha hl => ?_, fun ha hl => ?_, fun h => ?_⟩⟩
    · rw [superviseResult_of_check hstep (hactive ha), judgeCheck_passed (hactive ha) hd, passCheck_active ha]
    · rw [superviseResult_of_check hstep (hlagging ha), judgeCheck_passed (hlagging ha) hd, passCheck_lagging ha]
    · rw [superviseResult_of_check hstep (hactive ha), judgeCheck_failed (hactive ha) hr, failCheck_active ha hl]
    · rw [superviseResult_of_check hstep (hlagging ha), judgeCheck_failed (hlagging ha) hr, failCheck_lagging ha hl]
    · have hs : (s.slot i).state.inService = true := h.elim (fun h => hlagging h.1) fun h => hactive h.1
      rw [superviseResult_of_check hstep hs, judgeCheck_failed hs hr]
      exact failCheck_slot_of_limit h

end Sys2Proof.Machine

/-! ## Slots: the grants to SUPERVISE and HOLD, and enrollment -/

namespace Sys2Proof.Machine

set_option Elab.async false

/-! ### The grant to SUPERVISE (R91) -/

section Grant

variable {s : State}

theorem exec_superviseGrant_of_empty (hg : grantDue .supervise s = true) (hw : s.sup.work = []) :
    exec .superviseGrant s = .next (settle (returnGrant (takeGrant .supervise s))) := by
  show execSuperviseGrant s = _
  simp only [execSuperviseGrant, hg, if_true, takeGrant_frame, hw]

/-- The oldest item leaves the work list and its read is begun. -/
theorem exec_superviseGrant_of_item (hg : grantDue .supervise s = true) {w : WorkItem} {rest : List WorkItem}
    (hw : s.sup.work = w :: rest) {m : ModAddr} (hm : itemAddress w s = some m) :
    exec .superviseGrant s = .next (settle (beginTx
      { requester := .supervise, command := .read, slot := w.slot, addr := m, count := w.read.count }
      { takeGrant .supervise s with sup := { s.sup with work := rest } })) := by
  show execSuperviseGrant s = _
  simp only [execSuperviseGrant, hg, if_true, takeGrant_frame, hw]
  split
  · next a ha =>
    cases hm.symm.trans ha
    rfl
  · next ha => cases hm.symm.trans ha

/-- R91: the address and the count of each of the three reads. -/
theorem itemAddress_eq {i : SlotId} {read : WorkRead} {m : ModAddr} {count : Nat}
    (h : read = .descriptor ∧ m = 0xFFFFC0 ∧ count = 64 ∨
      (∃ d, read = .baseline ∧ (s.slot i).held = some d ∧ m = d.heartbeatAddr ∧ count = 4) ∨
      ∃ d, read = .check ∧ (s.slot i).descriptor = some d ∧ m = d.heartbeatAddr ∧ count = 4) :
    itemAddress { slot := i, read := read } s = some m ∧ count = read.count := by
  rcases h with ⟨rfl, rfl, rfl⟩ | ⟨d, rfl, hd, rfl, rfl⟩ | ⟨d, rfl, hd, rfl, rfl⟩
  · exact ⟨rfl, rfl⟩
  · simp [itemAddress, hd, WorkRead.count]
  · simp [itemAddress, hd, WorkRead.count]

end Grant

/-- Settles O31: the empty list returns the grant, and the oldest item's read is put on the backplane. -/
theorem superviseGrant : Obligations.SuperviseGrant := by
  refine fun s hg => ⟨fun hw => ?_, fun i read rest m count hw hr hp hread => ?_⟩
  · exact outcome_of_settle (exec_superviseGrant_of_empty hg hw)
  · obtain ⟨hm, rfl⟩ := itemAddress_eq hread
    have hready : linesReady { takeGrant .supervise s with sup := { s.sup with work := rest } } i = true :=
      (linesReady_iff ..).mpr ⟨hr, hp⟩
    rw [exec_superviseGrant_of_item hg hw hm, beginTx_of_ready hready, putTx_eq]
    exact ⟨_, rfl, rfl, settle_choice_of_held rfl⟩

/-! ### The grant to HOLD (R99, R116) -/

/-- A skip takes items off the work list at most, and adds replies to the reply queue at most. -/
theorem skipCheck_work_replies (i : SlotId) (s : State) :
    (∀ w ∈ (skipCheck i s).sup.work, w ∈ s.sup.work) ∧
      ∃ later, (skipCheck i s).link.replies = s.link.replies ++ later := by
  have hf : ∀ u : State, (∀ w ∈ (enterFaulted i .lagging u).sup.work, w ∈ u.sup.work) ∧
      ∃ later, (enterFaulted i .lagging u).link.replies = u.link.replies ++ later := fun u => by
    rw [enterFaulted_eq]
    exact ⟨fun w hw => (List.mem_filter.mp hw).1, _, rfl⟩
  have hu : (∀ w ∈ s.sup.work, w ∈ s.sup.work) ∧ ∃ later, s.link.replies = s.link.replies ++ later :=
    ⟨fun _ hw => hw, [], (List.append_nil _).symm⟩
  rcases Nat.lt_or_ge (s.slot i).skip s.params.skipAllowance with hs | hs
  · rw [skipCheck_counted hs]
    exact hu
  · rw [skipCheck_failed hs]
    cases hst : (s.slot i).state with
    | active =>
      rcases Nat.lt_or_ge 1 s.params.lagLimit with hl | hl
      · rw [failCheck_active hst hl]
        exact hu
      · rw [failCheck_active_faulted hst hl]
        exact hf _
    | lagging =>
      rcases Nat.lt_or_ge ((s.slot i).lag + 1) s.params.lagLimit with hl | hl
      · rw [failCheck_lagging hst hl]
        exact hu
      · rw [failCheck_lagging_faulted hst hl]
        exact hf _
    | _ =>
      simp only [failCheck, modifySlot_slot_self, hst]
      exact hu

theorem skipAll_work_replies (ws : List WorkItem) (s : State) :
    (∀ w ∈ (ws.foldl (fun u w => skipCheck w.slot u) s).sup.work, w ∈ s.sup.work) ∧
      ∃ later, (ws.foldl (fun u w => skipCheck w.slot u) s).link.replies = s.link.replies ++ later := by
  induction ws generalizing s with
  | nil => exact ⟨fun _ hw => hw, [], (List.append_nil _).symm⟩
  | cons x ws ih =>
    obtain ⟨hw, later, hr⟩ := ih (skipCheck x.slot s)
    obtain ⟨hw', later', hr'⟩ := skipCheck_work_replies x.slot s
    refine ⟨fun w h => hw' w (hw w h), later' ++ later, ?_⟩
    rw [List.foldl_cons, hr, hr', List.append_assoc]

/-- Skips leave every block alone but the supervisor, the link's replies, the fault list, the notices and the inbound
engine. -/
theorem skipAll_frame (ws : List WorkItem) (s : State) :
    (ws.foldl (fun u w => skipCheck w.slot u) s).arb = s.arb ∧
      (ws.foldl (fun u w => skipCheck w.slot u) s).hold = s.hold ∧
      (ws.foldl (fun u w => skipCheck w.slot u) s).ctrl = s.ctrl ∧
      (ws.foldl (fun u w => skipCheck w.slot u) s).xfer = s.xfer ∧
      (ws.foldl (fun u w => skipCheck w.slot u) s).windows = s.windows ∧
      (ws.foldl (fun u w => skipCheck w.slot u) s).pages = s.pages := by
  induction ws generalizing s with
  | nil => simp
  | cons x ws ih => simpa using ih (skipCheck x.slot s)

/-- A skip under the allowance touches its own slot's skip count alone. -/
theorem skipCheck_slot_of_counted {i : SlotId} {s : State} (h : (s.slot i).skip < s.params.skipAllowance) :
    (skipCheck i s).slot i = { s.slot i with skip := (s.slot i).skip + 1 } ∧
      (∀ j, i ≠ j → (skipCheck i s).slot j = s.slot j) ∧ (skipCheck i s).sup.work = s.sup.work := by
  have he : skipCheck i s = s.modifySlot i fun r => { r with skip := r.skip + 1 } := skipCheck_counted h
  rw [he]
  exact ⟨modifySlot_slot_self .., fun j hj => modifySlot_slot_of_ne _ _ hj, by simp⟩

/-- Two skips under the allowance count one each for their slots and leave the rest. -/
theorem skipCheck_skipCheck_slot {i j : SlotId} {s : State} (hij : i ≠ j)
    (hi : (s.slot i).skip < s.params.skipAllowance) (hj : (s.slot j).skip < s.params.skipAllowance) :
    (skipCheck j (skipCheck i s)).sup.work = s.sup.work ∧
      (skipCheck j (skipCheck i s)).slot i = { s.slot i with skip := (s.slot i).skip + 1 } ∧
      (skipCheck j (skipCheck i s)).slot j = { s.slot j with skip := (s.slot j).skip + 1 } ∧
      ∀ k, k ≠ i → k ≠ j → (skipCheck j (skipCheck i s)).slot k = s.slot k := by
  obtain ⟨hii, hin, hiw⟩ := skipCheck_slot_of_counted hi
  have hp : (skipCheck i s).params = s.params := by simp
  obtain ⟨hjj, hjn, hjw⟩ := skipCheck_slot_of_counted (i := j) (s := skipCheck i s) (by rw [hin j hij, hp]; exact hj)
  refine ⟨hjw.trans hiw, (hjn i hij.symm).trans hii, ?_, fun k hki hkj => (hjn k hkj.symm).trans (hin k hki.symm)⟩
  rw [hjj, hin j hij]

/-- The grant to HOLD: HELD, the acquire answered, and the CHECK items skipped oldest first (R99, R116). -/
theorem exec_holdGrant {s held : State} {r : ReqId} {n : Nat} (hg : grantDue .hold s = true)
    (hacq : s.hold.acquire = some r) (hlim : s.hold.limit = some n)
    (hheld : held = { queueReply r .ok (countBytes n) s with
      arb := (takeGrant .hold s).arb
      hold := { s.hold with state := .held, acquire := none, limitTimer := some n }
      sup := { s.sup with work := s.sup.work.filter fun w => w.read ≠ .check } }) :
    exec .holdGrant s = .next (settle
      ((s.sup.work.filter fun w => w.read = .check).foldl (fun u w => skipCheck w.slot u) held)) := by
  subst hheld
  show execHoldGrant s = _
  simp only [execHoldGrant, hg, if_true, takeGrant_frame, hacq, hlim, queueOwed_some, Option.getD_some, skipItems,
    queueReply_eq]

/-- Settles O34: the grant by `exec_holdGrant`, then the skips by what each of them can do. -/
theorem holdGrant : Obligations.HoldGrant := by
  intro s r n held hg hacq hlim hheld
  have hx := exec_holdGrant hg hacq hlim hheld
  have harb : held.arb.holder = some .hold := by rw [hheld]; rfl
  have hwork : held.sup.work = s.sup.work.filter fun w => w.read ≠ .check := by rw [hheld]
  refine ⟨hx, ⟨_, hx, ?_⟩, fun hno => ?_, fun i j hij hw hi hj => ?_⟩
  · obtain ⟨ha, hh, hc, hxf, hwin, hp⟩ := skipAll_frame (s.sup.work.filter fun w => w.read = .check) held
    obtain ⟨hw, hr⟩ := skipAll_work_replies (s.sup.work.filter fun w => w.read = .check) held
    rw [hheld] at hr
    simp only [settle_frame, hh, hc, hxf, hwin, hp, ha, harb, true_and]
    refine ⟨settle_choice_of_held (by rw [ha, harb]), by rw [hheld], by rw [hheld]; exact hr, ?_, ?_, ?_, ?_,
      fun w h => ?_⟩
    · rw [hheld]; simp
    · rw [hheld]; simp
    · rw [hheld]; simp
    · rw [hheld]; simp
    · have hm := hw w h
      rw [hwork] at hm
      simpa using (List.mem_filter.mp hm).2
  · have hnone : (s.sup.work.filter fun w => w.read = .check) = [] := by
      simpa [List.filter_eq_nil_iff] using hno
    have hall : (s.sup.work.filter fun w => w.read ≠ .check) = s.sup.work := by
      simpa [List.filter_eq_self] using hno
    rw [hnone] at hx
    refine ⟨(settle held).arb, hx.trans ?_, harb, settle_choice_of_held harb⟩
    rw [List.foldl_nil, hheld, hall]
    have hsup : (queueReply r .ok (countBytes n) s).sup = s.sup := by simp
    rw [← hsup]
    rfl
  · have hchecks : (s.sup.work.filter fun w => w.read = .check) =
        [{ slot := i, read := .check }, { slot := j, read := .check }] := by simp [hw]
    have hslot : ∀ k, held.slot k = s.slot k := fun k => by rw [hheld]; rfl
    have hallow : held.params.skipAllowance = s.params.skipAllowance := by rw [hheld]; simp
    have hskips := skipCheck_skipCheck_slot (s := held) hij (by rwa [hslot, hallow]) (by rwa [hslot, hallow])
    rw [hwork, hw] at hskips
    simp only [hslot] at hskips
    rw [hchecks] at hx
    exact ⟨_, hx, hskips⟩

/-! ### The checks on a descriptor (R93, R192) -/

theorem foldl_add_toNat (bs : List Byte) (b : Byte) :
    (bs.foldl (· + ·) b).toNat = (b.toNat + (bs.map BitVec.toNat).sum) % 256 := by
  induction bs generalizing b with
  | nil =>
    have := b.isLt
    simp only [List.foldl_nil, List.map_nil, List.sum_nil]
    omega
  | cons c bs ih =>
    rw [List.foldl_cons, ih, BitVec.toNat_add, List.map_cons, List.sum_cons]
    omega

/-- The sum of bytes mod 256 is 0. -/
theorem byteSum_eq_zero_iff (bs : List Byte) : byteSum bs = 0 ↔ (bs.map BitVec.toNat).sum % 256 = 0 := by
  rw [byteSum, ← BitVec.toNat_inj, foldl_add_toNat]
  simp

theorem le24_toNat (a b c : Byte) : (le24 a b c).toNat = a.toNat + 256 * b.toNat + 65536 * c.toNat := by
  have ha := a.isLt
  have hb := b.isLt
  rw [le24, BitVec.toNat_append, BitVec.toNat_append, Nat.shiftLeft_eq, Nat.shiftLeft_eq,
    ← Nat.shiftLeft_eq, ← Nat.shiftLeft_eq, ← Nat.shiftLeft_add_eq_or_of_lt ha, ← Nat.shiftLeft_add_eq_or_of_lt hb]
  simp only [Nat.shiftLeft_eq]
  omega

theorem le16_toNat (a b : Byte) : (le16 a b).toNat = a.toNat + 256 * b.toNat := by
  have ha := a.isLt
  rw [le16, BitVec.toNat_append, ← Nat.shiftLeft_add_eq_or_of_lt ha, Nat.shiftLeft_eq]
  omega

/-- R192: the fields of a descriptor are those of its bytes at their offsets. -/
theorem descriptorOf_eq {bs : List Byte} {d : Descriptor} (hcls : d.cls = byteAt bs 3) (hrev : d.revision = byteAt bs 4)
    (hatt : d.attention = (byteAt bs 5).getLsbD 0) (hswap : d.swap = (byteAt bs 5).getLsbD 1)
    (hspace : d.spaceLog2 = (byteAt bs 6).toNat)
    (hheart : d.heartbeatAddr.toNat = (byteAt bs 7).toNat + 256 * (byteAt bs 8).toNat + 65536 * (byteAt bs 9).toNat)
    (hpost : d.postAddr.toNat = (byteAt bs 10).toNat + 256 * (byteAt bs 11).toNat + 65536 * (byteAt bs 12).toNat)
    (hmax : d.maxPost = (byteAt bs 13).toNat + 256 * (byteAt bs 14).toNat) : descriptorOf bs = d := by
  rw [← le24_toNat, BitVec.toNat_inj] at hheart hpost
  rw [← le16_toNat] at hmax
  obtain ⟨cls, revision, attention, swap, spaceLog2, heartbeatAddr, postAddr, maxPost⟩ := d
  simp only at hcls hrev hatt hswap hspace hheart hpost hmax
  rw [descriptorOf, hcls, hrev, hatt, hswap, hspace, hheart, hpost, hmax]

/-- The layout checks of R93; a descriptor with no attention line may name any post address and a longest post of 0. -/
theorem Descriptor.layoutGood_iff (d : Descriptor) :
    d.layoutGood = true ↔ 12 ≤ d.spaceLog2 ∧ d.spaceLog2 ≤ 24 ∧ d.heartbeatAddr.toNat % 4 = 0 ∧
      d.heartbeatAddr.toNat + 4 ≤ 2 ^ d.spaceLog2 ∧ d.maxPost ≤ 256 ∧
      (d.attention = true → d.postAddr.toNat % 4 = 0 ∧ d.postAddr.toNat + 264 ≤ 2 ^ d.spaceLog2 ∧ 1 ≤ d.maxPost) := by
  cases ha : d.attention <;> simp [Descriptor.layoutGood, ha] <;> tauto

section Validate

variable {bs : List Byte}

theorem validateDescriptor_marker (h : ¬(byteAt bs 0 = 0x52 ∧ byteAt bs 1 = 0x42 ∧ byteAt bs 2 = 1)) :
    validateDescriptor bs = .error .enrollBadMarker := by
  rw [validateDescriptor, if_pos h]

theorem validateDescriptor_checksum (h : byteAt bs 0 = 0x52 ∧ byteAt bs 1 = 0x42 ∧ byteAt bs 2 = 1)
    (hs : byteSum bs ≠ 0) : validateDescriptor bs = .error .enrollBadChecksum := by
  rw [validateDescriptor, if_neg (not_not.mpr h), if_pos hs]

theorem validateDescriptor_layout (h : byteAt bs 0 = 0x52 ∧ byteAt bs 1 = 0x42 ∧ byteAt bs 2 = 1)
    (hs : byteSum bs = 0) :
    validateDescriptor bs =
      if (descriptorOf bs).layoutGood then .ok (descriptorOf bs) else .error .enrollBadLayout := by
  rw [validateDescriptor, if_neg (not_not.mpr h), if_neg (not_not.mpr hs)]

theorem layoutGood_of_validate {d : Descriptor} (h : validateDescriptor bs = .ok d) : d.layoutGood = true := by
  unfold validateDescriptor at h
  split at h
  · cases h
  · split at h
    · cases h
    · split at h
      · next hg => cases h; exact hg
      · cases h

end Validate

/-! ### The two reads of an attempt (R92-R96) -/

section Attempt

variable {i : SlotId} {s : State}

theorem superviseResult_descriptor (hs : (s.slot i).state ≠ .faulted) (hstep : (s.slot i).step = .descriptorRead)
    (data : List Byte) : superviseResult i .ack data s = judgeDescriptor i data s := by
  unfold superviseResult
  rw [if_neg (by simp [hs]), hstep]
  rfl

theorem superviseResult_baseline (hs : (s.slot i).state ≠ .faulted) (hstep : (s.slot i).step = .baselineRead)
    {d : Descriptor} (hd : (s.slot i).held = some d) (data : List Byte) :
    superviseResult i .ack data s = enrollSucceeds i d (readWord data) s := by
  unfold superviseResult
  rw [if_neg (by simp [hs]), hstep, hd]

/-- Any result of an attempt's read but ACK and ABSENT fails the attempt (R92). -/
theorem superviseResult_failed (hs : (s.slot i).state ≠ .faulted) (hstep : (s.slot i).step ≠ .none) {r : Result}
    (hr : r ≠ .absent) (ha : r ≠ .ack) (data : List Byte) :
    superviseResult i r data s = failAttempt i .enrollNoResponse s := by
  unfold superviseResult
  rw [if_neg (by simp [hs, hr])]
  cases h : (s.slot i).step with
  | none => exact absurd h hstep
  | descriptorRead => exact if_neg ha
  | baselineRead =>
    cases r with
    | ack => exact absurd rfl ha
    | _ => rfl

theorem judgeDescriptor_good {data : List Byte} {d : Descriptor} (h : validateDescriptor data = .ok d) :
    judgeDescriptor i data s = { s with sup :=
      { slots := s.sup.slots.set i { s.slot i with held := some d, step := .baselineRead }
        work := s.sup.work ++ [{ slot := i, read := .baseline }] } } := by
  rw [judgeDescriptor, h]
  rfl

theorem judgeDescriptor_bad {data : List Byte} {cause : SlotCause} (h : validateDescriptor data = .error cause) :
    judgeDescriptor i data s = failAttempt i cause s := by
  rw [judgeDescriptor, h]

/-- R95: a failed attempt with another to follow. -/
theorem failAttempt_again (h : (s.slot i).attempts < s.params.enrollAttempts) (cause : SlotCause) :
    failAttempt i cause s = { s with sup := { s.sup with
      slots := s.sup.slots.set i
        { s.slot i with attemptCause := some cause, held := none, step := .none
                        timer := some { kind := .gap, ms := 20 } } } } := by
  unfold failAttempt
  dsimp only
  rw [modifySlot_slot_self, if_pos (by exact h), modifySlot_modifySlot]
  rfl

/-- R95: the last attempt's failure faults the slot. -/
theorem failAttempt_last (h : s.params.enrollAttempts ≤ (s.slot i).attempts) (cause : SlotCause) :
    failAttempt i cause s = enterFaulted i cause { s with sup := { s.sup with
      slots := s.sup.slots.set i { s.slot i with attemptCause := some cause, held := none } } } := by
  unfold failAttempt
  dsimp only
  rw [modifySlot_slot_self, if_neg (by exact Nat.not_lt.mpr h)]
  rfl

/-- R94, R96: a slot whose enrollment succeeds, with an owed SLOT_ENROLL answered OK and its new epoch. -/
theorem enrollSucceeds_eq (d : Descriptor) (word : Word) :
    enrollSucceeds i d word s = { s with
      sup := { s.sup with
        slots := s.sup.slots.set i { s.slot i with
          state := .active, lastCause := .enrolled, descriptor := some d, held := none, epoch := (s.slot i).epoch + 1
          heartbeat := word, lag := 0, skip := 0, silence := 0, attemptCause := none, step := .none
          timer := checkTimer s.params, enrollReply := none } }
      notices := { s.notices with slotPending :=
        if s.notices.slotEnabled = true then s.notices.slotPending.set i true else s.notices.slotPending }
      link := { s.link with replies := s.link.replies ++ s.owedReply i .ok [(s.slot i).epoch + 1] } } := by
  unfold enrollSucceeds
  dsimp only
  rw [changeState_modifySlot (fun _ => rfl), queueOwed_eq]
  simp [State.modifySlot, State.slot, State.owedReply]

end Attempt

/-- Settles O32: the checks in the order of R93, the results of an attempt's reads by its step, and the entry into FAULTED
by `enterFaulted_eq`. -/
theorem enrollment : Obligations.Enrollment := by
  refine ⟨fun bs _ => ⟨validateDescriptor_marker, fun h0 h1 h2 => ⟨fun hsum => ?_, fun hsum d hcls hrev hatt hswap
    hspace hheart hpost hmax => ?_⟩⟩, fun s i data hst => ?_, fun s i cause => ?_⟩
  · exact validateDescriptor_checksum ⟨h0, h1, h2⟩ fun e => hsum ((byteSum_eq_zero_iff bs).mp e)
  · rw [validateDescriptor_layout ⟨h0, h1, h2⟩ ((byteSum_eq_zero_iff bs).mpr hsum),
      descriptorOf_eq hcls hrev hatt hswap hspace hheart hpost hmax, ← Descriptor.layoutGood_iff]
    exact ⟨fun h => if_pos h, fun h => if_neg h⟩
  · have hf : (s.slot i).state ≠ .faulted := by rw [hst]; decide
    refine ⟨fun hstep d hd => ?_, fun hstep d hd => ?_, fun r cause hr => ?_⟩
    · rw [superviseResult_descriptor hf hstep, judgeDescriptor_good hd]
    · rw [superviseResult_baseline hf hstep hd, enrollSucceeds_eq]
      rfl
    · have hx : superviseResult i r data s = failAttempt i cause s := by
        rcases hr with ⟨rfl, hstep, hbad⟩ | ⟨hr, hstep, rfl⟩
        · rw [superviseResult_descriptor hf hstep, judgeDescriptor_bad hbad]
        · refine superviseResult_failed hf hstep (fun e => ?_) (fun e => ?_) data <;> simp [e] at hr
      rw [hx]
      exact ⟨fun h => failAttempt_again h cause, fun h => failAttempt_last h cause⟩
  · rw [enterFaulted_eq, State.owedReply]
    rfl

end Sys2Proof.Machine

/-! ## Breaks -/

namespace Sys2Proof.Machine

set_option Elab.async false

/-! ### The frame on the line is cut off (R160, R175, R177) -/

section CutOff

variable {s : State} {f : Frame}

theorem cutOff_linkUp_of_linkUp {k : ResetKind} (h : s.link.transmitter = some (f, .linkUp k)) :
    (cutOff s).link.linkUp = some (mergeReset s.link.linkUp k) := by
  simp [cutOff, h, Link.pendLinkUp]

theorem cutOff_linkUp_of_other (h : ∀ f k, s.link.transmitter ≠ some (f, .linkUp k)) :
    (cutOff s).link.linkUp = s.link.linkUp := by
  unfold cutOff
  dsimp only
  split
  · next ht => exact absurd ht (h _ _)
  · split <;> rfl
  · split <;> rfl
  · rfl

theorem cutOff_holdEnd_of_holdEnd {n : Nat} (h : s.link.transmitter = some (f, .holdEnd n false))
    (he : s.notices.holdEnabled = true) : (cutOff s).notices.holdEnd = some n := by
  simp [cutOff, h, he]

theorem cutOff_holdEnd_of_other
    (h : (∀ f n, s.link.transmitter ≠ some (f, .holdEnd n false)) ∨ s.notices.holdEnabled = false) :
    (cutOff s).notices.holdEnd = s.notices.holdEnd := by
  unfold cutOff
  dsimp only
  split
  · rfl
  · split <;> rfl
  · next again ht =>
    rw [if_neg]
    rintro ⟨he, hagain⟩
    rcases h with h | h
    · cases again with
      | false => exact h _ _ ht
      | true => exact hagain rfl
    · rw [h] at he
      cases he
  · rfl

theorem cutOff_faults_of_fault {n : Word} (h : s.link.transmitter = some (f, .fault n))
    (he : s.notices.faultEnabled = true) : (cutOff s).faults = s.faults.mark n true := by
  simp [cutOff, h, he]

theorem cutOff_faults_of_other
    (h : (∀ f n, s.link.transmitter ≠ some (f, .fault n)) ∨ s.notices.faultEnabled = false) :
    (cutOff s).faults = s.faults := by
  unfold cutOff
  dsimp only
  split
  · rfl
  · next ht =>
    rcases h with h | h
    · exact absurd ht (h _ _)
    · rw [if_neg (by simp [h])]
  · split <;> rfl
  · rfl

end CutOff

/-- The kinds of LINK_UP merged: the first of POWER_ON, BRIDGE and BREAK (R175). -/
theorem mergeReset_some (j k : ResetKind) :
    mergeReset (some j) k =
      if j = .powerOn ∨ k = .powerOn then .powerOn else if j = .bridge ∨ k = .bridge then .bridge else .brk := by
  cases j <;> cases k <;> rfl

theorem mergeReset_none (k : ResetKind) : mergeReset none k = k := by
  cases k <;> rfl

theorem mergeReset_brk (k : ResetKind) : mergeReset (some k) .brk = k := by
  cases k <;> rfl

/-! ### The hold unit and the replies (R126, R172) -/

/-- The replies the end of a hold by a break queues: they are for requests of the session that has just begun. -/
def State.breakReplies (s : State) : List Reply :=
  if s.hold.state = .held ∧ s.hold.cycle = none then
    ((s.hold.cycles.filter fun c => c.req.session = s.link.session + 1).map fun c => c.req.reply .notHeld []) ++
    (match s.hold.releaseReply with
     | some r => if r.session = s.link.session + 1 then [r.reply .ok []] else []
     | none => [])
  else []

/-- A break that takes no bridge reset, block by block (R177). -/
def State.broken (s : State) : State := { s with
  link := { s.link with
    phase := .brk, framer := .hunt, lowRun := 0, session := s.link.session + 1, unreplied := []
    replies := s.breakReplies, cache := [], overload := none, transmitter := none
    linkUp := some (mergeReset (cutOff s).link.linkUp .brk) }
  arb := if s.hold.state = .held ∧ s.hold.cycle = none then { s.arb with holder := none } else s.arb
  hold := s.hold.afterBreak
  inb := { s.inb with credits := 0 }
  pins := { s.pins with rxLow := true }
  faults := (cutOff s).faults
  notices := { s.notices with
    slotPending := if s.notices.slotEnabled = true then Vector.replicate 16 true else s.notices.slotPending
    holdEnd := (cutOff s).notices.holdEnd } }

/-- Where the OK of a BRIDGE_RESET is owed, the bridge reset is taken in the event of the break (R177, R178). -/
theorem beginBreak_eq (s : State) :
    beginBreak s = if resetOwed s.link = true then takeReset s.broken else s.broken := by
  have hb : noteAllSlots (breakHold { cutOff s with
      link := (cutOff s).link.beginBreak, inb := { (cutOff s).inb with credits := 0 }
      pins := { (cutOff s).pins with rxLow := true } }) = s.broken := by
    rw [noteAllSlots_eq, breakHold_eq, cutOff_eq]
    simp [Link.beginBreak, Link.pendLinkUp, State.breakReplies, State.broken] <;> rfl
  unfold beginBreak
  dsimp only
  rw [hb]

/-! ### What the beginning of a break leaves -/

section Begun

variable (s : State)

theorem beginBreak_link :
    (beginBreak s).link = { s.link with
      phase := .brk, framer := .hunt, lowRun := 0, unreplied := [], cache := [], overload := none, transmitter := none
      replies := if resetOwed s.link = true then [] else s.breakReplies
      linkUp := some (mergeReset (cutOff s).link.linkUp .brk)
      resetTaken := resetOwed s.link || s.link.resetTaken
      session := s.link.session + (if resetOwed s.link = true then 2 else 1) } := by
  rw [beginBreak_eq]
  cases resetOwed s.link <;> rfl

theorem beginBreak_hold :
    (beginBreak s).hold = if resetOwed s.link = true then s.hold.afterBreak.takeReset else s.hold.afterBreak := by
  rw [beginBreak_eq]
  cases resetOwed s.link <;> rfl

theorem beginBreak_blocks :
    beginBreak s = { s.broken with
      link := (beginBreak s).link, hold := (beginBreak s).hold
      windows := if resetOwed s.link = true then Vector.replicate 8 {} else s.windows
      pages := if resetOwed s.link = true then Vector.replicate 2048 {} else s.pages
      xfer := if resetOwed s.link = true then
          { queue := [], postedFailures := 0, pair := s.xfer.pair.map fun p => { p with entry := none } }
        else s.xfer } := by
  rw [beginBreak_eq]
  cases resetOwed s.link <;> rfl

theorem beginBreak_holder :
    (beginBreak s).arb.holder = if s.hold.state = .held ∧ s.hold.cycle = none then none else s.arb.holder := by
  rw [beginBreak_blocks]
  exact apply_ite Arb.holder _ _ _

theorem beginBreak_faults : (beginBreak s).faults = (cutOff s).faults := by
  rw [beginBreak_blocks]
  rfl

theorem beginBreak_notices :
    (beginBreak s).notices = { s.notices with
      slotPending := if s.notices.slotEnabled = true then Vector.replicate 16 true else s.notices.slotPending
      holdEnd := (cutOff s).notices.holdEnd } := by
  rw [beginBreak_blocks]
  rfl

end Begun

section HoldUnit

variable {h : Hold}

theorem Hold.afterBreak_idle (hs : h.state = .idle) : h.afterBreak = h := by
  rw [Hold.afterBreak, hs]

theorem Hold.afterBreak_pending (hs : h.state = .pending) :
    h.afterBreak = { h with state := .idle, acquire := none, limit := none } := by
  rw [Hold.afterBreak, hs]

theorem Hold.afterBreak_ended (hs : h.state = .held) (hc : h.cycle = none) : h.afterBreak = h.ended := by
  rw [Hold.afterBreak, hs]
  exact if_pos hc

theorem Hold.afterBreak_lasts (hs : h.state = .held) (hc : h.cycle ≠ none) :
    h.afterBreak = { h with limitTimer := none, endCause := some .brk } := by
  rw [Hold.afterBreak, hs]
  exact if_neg hc

/-- A bridge reset taken with no acquire pending stops the limit timer (R125). -/
theorem Hold.takeReset_of_not_pending (hs : h.state ≠ .pending) : h.takeReset = { h with limitTimer := none } := by
  cases h' : h.state with
  | pending => exact absurd h' hs
  | _ => simp [Hold.takeReset, h']

end HoldUnit

theorem Reply.isResetOk_iff (r : Reply) :
    r.isResetOk = true ↔ r.kind = Kind.bridgeReset ∧ r.status = .ok ∧ r.resend = false := by
  simp [Reply.isResetOk, and_assoc]

/-- Settles O52: the beginning of a break block by block, the frame cut off by its source and the hold by its state; the
end of a break by the phase. -/
theorem breaks : Obligations.Breaks := by
  refine ⟨⟨fun s h => ?_, fun s owed hb howed => ?_⟩, fun s => ⟨fun h => ?_, fun h => ?_⟩⟩
  · show execBreakBegin s = _
    rw [execBreakBegin, if_pos h]
  · obtain rfl : owed = resetOwed s.link := by
      rw [Bool.eq_iff_iff, howed, resetOwed_iff]
      simp only [Reply.isResetOk_iff]
    have hx : exec .breakBegin s = .next (settle (beginBreak s)) := by
      show execBreakBegin s = _
      rw [execBreakBegin, if_neg hb]
    refine ⟨_, hx, ?_⟩
    simp only [settle_frame, beginBreak_holder, beginBreak_faults]
    refine ⟨?_, ?_, fun h => ?_, fun hr hs hc => ?_, fun hl ht => ?_, fun k hl ht => ?_, fun f k hl ht => ?_,
      fun f j k hl ht => ?_, fun h => ?_, fun hs hc => ?_, fun hs => ?_, fun hs => ?_, fun hs hc => ?_, fun hs hc => ?_,
      ?_, fun f n ht he => ?_, fun h => ?_, fun f n ht he => ?_, fun h => ?_⟩
    · rw [settle_eq, beginBreak_blocks]
      rfl
    · rw [beginBreak_link]
    · rw [beginBreak_link]
      rcases h with h | h | h <;> simp [State.breakReplies, h]
    · rw [beginBreak_link]
      simp only [hr, State.breakReplies, hs, hc] <;> rfl
    · rw [beginBreak_link, cutOff_linkUp_of_other ht, hl, mergeReset_none]
    · rw [beginBreak_link, cutOff_linkUp_of_other ht, hl, mergeReset_brk]
    · rw [beginBreak_link, cutOff_linkUp_of_linkUp ht, hl, mergeReset_none, mergeReset_brk]
    · rw [beginBreak_link, cutOff_linkUp_of_linkUp ht, hl, mergeReset_brk, mergeReset_some]
    · exact if_neg fun hc => h.elim (fun h => h hc.1) fun h => h hc.2
    · exact if_pos ⟨hs, hc⟩
    · rw [beginBreak_hold, Hold.afterBreak_idle hs, Hold.takeReset_of_not_pending (by simp [hs])]
      split <;> rfl
    · rw [beginBreak_hold, Hold.afterBreak_pending hs, Hold.takeReset_of_not_pending (by simp)]
      split <;> rfl
    · rw [beginBreak_hold, Hold.afterBreak_ended hs hc, Hold.takeReset_of_not_pending (by simp [Hold.ended])]
      exact ite_self _
    · rw [beginBreak_hold, Hold.afterBreak_lasts hs hc, Hold.takeReset_of_not_pending (by simp [hs])]
      exact ite_self _
    · rw [beginBreak_notices]
    · rw [beginBreak_notices]
      exact cutOff_holdEnd_of_holdEnd ht he
    · rw [beginBreak_notices]
      exact cutOff_holdEnd_of_other h
    · exact cutOff_faults_of_fault ht he
    · exact cutOff_faults_of_other h
  · show execBreakEnd s = _
    rw [execBreakEnd, if_pos h]
    rfl
  · show execBreakEnd s = _
    rw [execBreakEnd, if_neg h]

end Sys2Proof.Machine

/-! ## The law of the slot records and the work list: records, and the rules of the supervisor -/

namespace Sys2Proof.Machine

set_option Elab.async false

/-! ### The law of one record -/

theorem SlotState.inService_iff (st : SlotState) : st.inService = true ↔ st = .active ∨ st = .lagging := by
  cases st <;> simp [SlotState.inService]

/-- The states in which a slot has items on the work list (R91). -/
def SlotState.Working (st : SlotState) : Prop := st = .enrolling ∨ st.inService = true

/-- A state out of enrollment, of service and of FAULTED. -/
abbrev SlotState.AtRest (st : SlotState) : Prop := st ≠ .faulted ∧ st ≠ .enrolling ∧ st.inService = false

theorem SlotState.AtRest.inService_eq_false {st : SlotState} (h : st.AtRest) : st.inService = false := by
  obtain ⟨-, -, hs⟩ := h
  exact hs

theorem SlotState.AtRest.not_working {st : SlotState} (h : st.AtRest) : ¬ st.Working := by
  obtain ⟨-, he, hs⟩ := h
  simp [SlotState.Working, he, hs]

/-- A state out of enrollment, of service and of FAULTED, with the timer that runs in it (R86). -/
def SlotState.Rests : SlotState → Option SlotTimer → Prop
  | .off, t | .empty, t | .present, t => t = none
  | .settling, t => ∃ ms, t = some { kind := .settle, ms := ms }
  | .resetting, t => ∃ ms, t = some { kind := .pulse, ms := ms }
  | .enrolling, _ | .active, _ | .lagging, _ | .faulted, _ => False

/-- What the field table says of one slot record (R84, R86, R93, R94, R96). -/
structure Slot.Lawful (r : Slot) : Prop where
  fault     : r.faultCause.isSome = true ↔ r.state = .faulted
  timer     : ∀ t, r.timer = some t → t.kind.fits r.state = true
  settling  : r.state = .settling → ∃ ms, r.timer = some { kind := .settle, ms := ms }
  resetting : r.state = .resetting → ∃ ms, r.timer = some { kind := .pulse, ms := ms }
  step      : r.step ≠ .none → r.state = .enrolling ∧ r.timer = none
  held      : ∀ d, r.held = some d → r.step = .baselineRead ∧ d.layoutGood = true
  copy      : ∀ d, r.descriptor = some d → d.layoutGood = true
  service   : r.state.inService = true → r.descriptor.isSome = true
  enroll    : r.enrollReply.isSome = true → r.state = .enrolling
  silence   : r.silence ≤ 15

/-- The law of the slot records and the work list, of the supervisor's block alone. -/
structure Supervisor.Lawful (u : Supervisor) : Prop where
  slots : ∀ i : SlotId, u.slots[i].Lawful
  work  : ∀ w ∈ u.work, u.slots[w.slot].state.Working

theorem timerRuns_iff (i : SlotId) (k : TimerKind) (s : State) :
    timerRuns i k s = true ↔ ∃ ms, (s.slot i).timer = some { kind := k, ms := ms } := by
  unfold timerRuns
  split
  · next t ht =>
    obtain ⟨kind, ms⟩ := t
    simp [ht]
  · next ht => simp [ht]

theorem State.slotLaw_iff (s : State) : s.SlotLaw ↔ s.sup.Lawful := by
  constructor
  · intro h
    exact ⟨fun i => ⟨h.fault i, h.timer i, fun hs => (timerRuns_iff i _ s).mp (h.settling i hs),
      fun hs => (timerRuns_iff i _ s).mp (h.resetting i hs), h.step i, h.held i, h.copy i, h.service i, h.enroll i,
      h.silence i⟩, h.work⟩
  · intro h
    have hr : ∀ i, (s.slot i).Lawful := h.slots
    exact ⟨fun i => (hr i).fault, fun i => (hr i).timer, fun i hs => (timerRuns_iff ..).mpr ((hr i).settling hs),
      fun i hs => (timerRuns_iff ..).mpr ((hr i).resetting hs), fun i => (hr i).step, fun i => (hr i).held,
      fun i => (hr i).copy, fun i => (hr i).service, fun i => (hr i).enroll, fun i => (hr i).silence, h.work⟩

theorem Supervisor.Lawful.slot {s : State} (h : s.sup.Lawful) (i : SlotId) : (s.slot i).Lawful := h.slots i

/-! ### Lawful records, by their states -/

section Records

variable {r : Slot}

theorem Slot.Lawful.of_rests (hst : r.state.Rests r.timer) (hf : r.faultCause = none) (hs : r.step = .none)
    (hh : r.held = none) (he : r.enrollReply = none) (hc : ∀ d, r.descriptor = some d → d.layoutGood = true)
    (hsil : r.silence ≤ 15) : r.Lawful := by
  have hno : r.state ≠ .faulted ∧ r.state.inService = false := by
    cases h : r.state <;> simp_all [SlotState.Rests, SlotState.inService]
  refine ⟨by simp [hf, hno.1], fun t ht => ?_, fun h => ?_, fun h => ?_, fun h => absurd hs h, by simp [hh], hc,
    by simp [hno.2], by simp [he], hsil⟩
  · cases h : r.state <;> simp only [h, ht, SlotState.Rests] at hst
    case settling =>
      obtain ⟨ms, ⟨⟩⟩ := hst
      rfl
    case resetting =>
      obtain ⟨ms, ⟨⟩⟩ := hst
      rfl
    all_goals cases hst
  · rwa [h] at hst
  · rwa [h] at hst

theorem Slot.Lawful.of_enrolling (hst : r.state = .enrolling) (hf : r.faultCause = none)
    (ht : r.timer = none ∨ r.step = .none ∧ ∃ ms, r.timer = some { kind := .gap, ms := ms })
    (hh : ∀ d, r.held = some d → r.step = .baselineRead ∧ d.layoutGood = true)
    (hc : ∀ d, r.descriptor = some d → d.layoutGood = true) (hsil : r.silence ≤ 15) : r.Lawful := by
  refine ⟨by simp [hf, hst], fun t h => ?_, by simp [hst], by simp [hst], fun h => ⟨hst, ?_⟩, hh, hc,
    by simp [hst, SlotState.inService], fun _ => hst, hsil⟩
  · rcases ht with ht | ⟨-, ms, ht⟩ <;> cases ht.symm.trans h
    simp [TimerKind.fits, hst]
  · exact ht.resolve_right fun hg => h hg.1

theorem Slot.Lawful.of_inService (hst : r.state.inService = true) (hf : r.faultCause = none)
    (ht : ∀ t, r.timer = some t → t.kind = .check) (hs : r.step = .none) (hh : r.held = none)
    (he : r.enrollReply = none) (hd : r.descriptor.isSome = true)
    (hc : ∀ d, r.descriptor = some d → d.layoutGood = true) (hsil : r.silence ≤ 15) : r.Lawful := by
  have hst' := (SlotState.inService_iff _).mp hst
  refine ⟨?_, fun t h => ?_, fun h => ?_, fun h => ?_, fun h => absurd hs h, by simp [hh], hc, fun _ => hd,
    by simp [he], hsil⟩
  · rcases hst' with h | h <;> simp [hf, h]
  · simpa [ht t h, TimerKind.fits] using hst
  · simp [h] at hst'
  · simp [h] at hst'

theorem Slot.Lawful.faultCause_eq_none (h : r.Lawful) (hs : r.state ≠ .faulted) : r.faultCause = none := by
  rw [← Option.not_isSome_iff_eq_none, h.fault]
  exact hs

theorem Slot.Lawful.step_eq_none (h : r.Lawful) (hs : r.state ≠ .enrolling) : r.step = .none := by
  by_contra hn
  exact hs (h.step hn).1

theorem Slot.Lawful.held_eq_none (h : r.Lawful) (hs : r.step ≠ .baselineRead) : r.held = none :=
  Option.eq_none_iff_forall_ne_some.mpr fun d hd => hs (h.held d hd).1

theorem Slot.Lawful.enrollReply_eq_none (h : r.Lawful) (hs : r.state ≠ .enrolling) : r.enrollReply = none := by
  rw [← Option.not_isSome_iff_eq_none]
  exact fun he => hs (h.enroll he)

theorem Slot.Lawful.held_eq_none_of_state (h : r.Lawful) (hs : r.state ≠ .enrolling) : r.held = none :=
  h.held_eq_none (by simp [h.step_eq_none hs])

/-- A slot that is removed, reset, or taken OFF (R89, R104, R106, R111). -/
theorem Slot.Lawful.cleared (h : r.Lawful) {st : SlotState} {timer : Option SlotTimer} (hst : st.Rests timer)
    (cause : LastCause) :
    Slot.Lawful { r.clearedCounts timer with state := st, lastCause := cause, enrollReply := none } :=
  .of_rests hst rfl rfl rfl rfl h.copy (Nat.zero_le _)

/-- A slot at rest comes to rest in another state (R87, R88, R105, R107). -/
theorem Slot.Lawful.rest (h : r.Lawful) (hr : r.state.AtRest) {st : SlotState} {timer : Option SlotTimer}
    (hst : st.Rests timer) (cause : LastCause) :
    Slot.Lawful { r with state := st, lastCause := cause, timer := timer } := by
  obtain ⟨hf, he, -⟩ := hr
  exact .of_rests hst (h.faultCause_eq_none hf) (h.step_eq_none he) (h.held_eq_none_of_state he)
    (h.enrollReply_eq_none he) h.copy h.silence

/-- A slot that enters ENROLLING with its first attempt begun (R92, R96). -/
theorem Slot.Lawful.enrolling (h : r.Lawful) (hr : r.state.AtRest) (cause : LastCause) (reply : Option ReqId) :
    Slot.Lawful { r with
      state := .enrolling, lastCause := cause, attempts := 1, attemptCause := none, step := .descriptorRead
      timer := none, enrollReply := reply } := by
  obtain ⟨hf, he, -⟩ := hr
  exact .of_enrolling rfl (h.faultCause_eq_none hf) (.inl rfl) (by simp [h.held_eq_none_of_state he]) h.copy h.silence

/-- The next attempt of a slot in the gap between two (R95). -/
theorem Slot.Lawful.attempt (h : r.Lawful) (he : r.state = .enrolling) (hs : r.step ≠ .baselineRead) (n : Nat) :
    Slot.Lawful { r with attempts := n, step := .descriptorRead, timer := none } :=
  .of_enrolling he (h.faultCause_eq_none (by simp [he])) (.inl rfl) (by simp [h.held_eq_none hs]) h.copy h.silence

/-- A slot with the descriptor of its attempt held and the baseline read next (R93). -/
theorem Slot.Lawful.holding (h : r.Lawful) (he : r.step ≠ .none) {d : Descriptor} (hd : d.layoutGood = true) :
    Slot.Lawful { r with held := some d, step := .baselineRead } := by
  obtain ⟨hst, ht⟩ := h.step he
  refine .of_enrolling hst (h.faultCause_eq_none (by simp [hst])) (.inl ht) ?_ h.copy h.silence
  rintro _ ⟨⟩
  exact ⟨rfl, hd⟩

/-- A slot in the gap after a failed attempt (R95). -/
theorem Slot.Lawful.gap (h : r.Lawful) (he : r.state = .enrolling) (cause : Option SlotCause) (ms : Nat) :
    Slot.Lawful { r with attemptCause := cause, held := none, step := .none, timer := some { kind := .gap, ms := ms } } :=
  .of_enrolling he (h.faultCause_eq_none (by simp [he])) (.inr ⟨rfl, ms, rfl⟩) (by simp) h.copy h.silence

/-- A slot that enters FAULTED (R103). -/
theorem Slot.Lawful.faulted (h : r.Lawful) (cause : SlotCause) : Slot.Lawful { r with
    state := .faulted, lastCause := .fault, faultCause := some cause, timer := none, step := .none, held := none
    enrollReply := none } := by
  constructor <;> simp [SlotState.inService]
  · exact h.copy
  · exact h.silence

theorem checkTimer_kind {p : Params} {t : SlotTimer} (h : checkTimer p = some t) : t.kind = .check := by
  unfold checkTimer at h
  split at h <;> cases h
  rfl

/-- A slot whose enrollment has succeeded (R94). -/
theorem Slot.Lawful.enrolled (h : r.Lawful) {d : Descriptor} (hd : r.held = some d) {epoch : Byte} {word : Word}
    (p : Params) : Slot.Lawful { r with
      state := .active, lastCause := .enrolled, descriptor := some d, held := none, epoch := epoch, heartbeat := word
      lag := 0, skip := 0, silence := 0, attemptCause := none, step := .none, timer := checkTimer p
      enrollReply := none } := by
  obtain ⟨hs, hgood⟩ := h.held d hd
  obtain ⟨hst, -⟩ := h.step (by simp [hs])
  refine .of_inService rfl (h.faultCause_eq_none (by simp [hst])) (fun _ => checkTimer_kind) rfl rfl rfl rfl ?_
    (Nat.zero_le _)
  rintro _ ⟨⟩
  exact hgood

/-- A slot in service goes on in service, its counts, its heartbeat and its check timer changed (R97-R100). -/
theorem Slot.Lawful.served (h : r.Lawful) (hst : r.state.inService = true) {st : SlotState}
    (hst' : st.inService = true) {timer : Option SlotTimer} (ht : ∀ t, timer = some t → t.kind = .check)
    {cause : LastCause} {lag skip : Nat} {word : Word} : Slot.Lawful { r with
      state := st, lastCause := cause, lag := lag, skip := skip, heartbeat := word, timer := timer } := by
  have hf : r.state ≠ .faulted := fun e => by rw [e] at hst; cases hst
  have he : r.state ≠ .enrolling := fun e => by rw [e] at hst; cases hst
  exact .of_inService hst' (h.faultCause_eq_none hf) ht (h.step_eq_none he) (h.held_eq_none_of_state he)
    (h.enrollReply_eq_none he) (h.service hst) h.copy h.silence

/-- The timer of a slot in service is its check timer (R86). -/
theorem Slot.Lawful.timer_kind (h : r.Lawful) (hst : r.state.inService = true) {t : SlotTimer}
    (ht : r.timer = some t) : t.kind = .check := by
  have hfit := h.timer t ht
  cases hk : t.kind with
  | check => rfl
  | _ =>
    simp only [hk, TimerKind.fits, decide_eq_true_eq] at hfit
    rw [hfit] at hst
    cases hst

theorem switchCheck_state (r : Slot) (old new : Nat) : (r.switchCheck old new).state = r.state := by
  unfold Slot.switchCheck
  (repeat' split) <;> rfl

/-- CHECK_INTERVAL's switch stops and starts check timers alone (R97). -/
theorem Slot.Lawful.switchCheck (h : r.Lawful) (old new : Nat) : (r.switchCheck old new).Lawful := by
  unfold Slot.switchCheck
  split
  · split
    · next t ht =>
      split
      · next hk =>
        have hst : r.state.inService = true := by simpa [hk, TimerKind.fits] using h.timer t ht
        exact h.served hst hst (by simp)
      · exact h
    · exact h
  · split
    · next hc =>
      obtain ⟨-, -, hst⟩ := hc
      refine h.served hst hst ?_
      rintro _ ⟨⟩
      rfl
    · exact h

theorem Slot.Lawful.completeReset (h : r.Lawful) (p : Params) : (r.completeReset p).Lawful := by
  unfold Slot.completeReset
  split
  · exact { h with enroll := by simp }
  · exact h.cleared (st := .resetting) ⟨_, rfl⟩ .reset

theorem powerOnSlot_lawful (present : Bool) : (powerOnSlot present).Lawful := by
  cases present with
  | false => exact .of_rests rfl rfl rfl rfl rfl (by simp [powerOnSlot]) (Nat.zero_le _)
  | true => exact .of_rests (r := powerOnSlot true) ⟨_, rfl⟩ rfl rfl rfl rfl (by simp [powerOnSlot]) (Nat.zero_le _)

end Records

/-! ### A lawful supervisor with one record replaced -/

section Replace

variable {u : Supervisor} {i : SlotId} {r : Slot}

theorem Supervisor.Lawful.set (h : u.Lawful) (hr : r.Lawful) {work : List WorkItem}
    (hw : ∀ w ∈ work, w.slot = i ∧ r.state.Working ∨ w.slot ≠ i ∧ w ∈ u.work) :
    Supervisor.Lawful { slots := u.slots.set i r, work := work } := by
  have hself : ∀ j : SlotId, j = i → (u.slots.set i r)[j] = r := by
    rintro _ rfl
    simp
  have hother : ∀ j : SlotId, j ≠ i → (u.slots.set i r)[j] = u.slots[j] := fun j hj =>
    Vector.getElem_set_ne _ _ fun e => hj (Fin.ext e.symm)
  refine ⟨fun j => ?_, fun w hm => ?_⟩
  · by_cases hj : j = i
    · rw [hself j hj]
      exact hr
    · rw [hother j hj]
      exact h.slots j
  · rcases hw w hm with ⟨hi, hst⟩ | ⟨hi, hm⟩
    · rw [hself _ hi]
      exact hst
    · rw [hother _ hi]
      exact h.work w hm

/-- The work list stays: the slot goes on in a state that may have items. -/
theorem Supervisor.Lawful.record (h : u.Lawful) (hr : r.Lawful) (hw : u.slots[i].state.Working → r.state.Working) :
    Supervisor.Lawful { u with slots := u.slots.set i r } := by
  refine h.set hr fun w hm => ?_
  by_cases hi : w.slot = i
  · exact .inl ⟨hi, hw (hi ▸ h.work w hm)⟩
  · exact .inr ⟨hi, hm⟩

/-- The slot's items leave the work list with the change. -/
theorem Supervisor.Lawful.dropped (h : u.Lawful) (hr : r.Lawful) :
    Supervisor.Lawful { slots := u.slots.set i r, work := u.work.filter fun w => w.slot ≠ i } :=
  h.set hr fun w hm => .inr (by simpa [and_comm] using List.mem_filter.mp hm)

/-- An item of the slot joins the work list with the change. -/
theorem Supervisor.Lawful.joined (h : u.Lawful) (hr : r.Lawful) (hw : r.state.Working) (read : WorkRead) :
    Supervisor.Lawful { slots := u.slots.set i r, work := u.work ++ [{ slot := i, read := read }] } := by
  refine h.set hr fun w hm => ?_
  by_cases hi : w.slot = i
  · exact .inl ⟨hi, hw⟩
  · refine .inr ⟨hi, (List.mem_append.mp hm).resolve_right fun hn => hi ?_⟩
    rw [List.mem_singleton.mp hn]

theorem Supervisor.Lawful.fewer (h : u.Lawful) {work : List WorkItem} (hw : ∀ w ∈ work, w ∈ u.work) :
    Supervisor.Lawful { u with work := work } :=
  ⟨h.slots, fun w hm => h.work w (hw w hm)⟩

end Replace

/-! ### The supervisor's acts -/

/-- What an act of the part keeps: the law of the supervisor's block. -/
structure KeepsSlots (s t : State) : Prop where
  lawful : s.sup.Lawful → t.sup.Lawful

theorem KeepsSlots.refl (s : State) : KeepsSlots s s := ⟨id⟩

theorem KeepsSlots.trans {s t u : State} (h : KeepsSlots s t) (h' : KeepsSlots t u) : KeepsSlots s u :=
  ⟨h'.lawful ∘ h.lawful⟩

theorem KeepsSlots.of_sup {s t : State} (h : t.sup = s.sup) : KeepsSlots s t := ⟨fun hs => h ▸ hs⟩

theorem KeepsSlots.then_sup {s t u : State} (h : KeepsSlots s t) (h' : u.sup = t.sup) : KeepsSlots s u :=
  h.trans (.of_sup h')

theorem KeepsSlots.settle {s t : State} (h : KeepsSlots s t) : KeepsSlots s (settle t) := ⟨h.lawful⟩

theorem KeepsSlots.queueReply {s t : State} (h : KeepsSlots s t) (r : ReqId) (st : Status) (body : List Byte) :
    KeepsSlots s (queueReply r st body t) := h.then_sup (by simp)

theorem KeepsSlots.returnGrant {s t : State} (h : KeepsSlots s t) : KeepsSlots s (returnGrant t) :=
  h.then_sup (by simp)

section Acts

variable (i : SlotId) (s : State)

theorem enterFaulted_keepsSlots (cause : SlotCause) : KeepsSlots s (enterFaulted i cause s) := by
  refine ⟨fun h => ?_⟩
  rw [enterFaulted_eq]
  exact h.dropped ((h.slot i).faulted cause)

theorem removeSlot_keepsSlots : KeepsSlots s (removeSlot i s) := by
  refine ⟨fun h => ?_⟩
  rw [removeSlot_eq]
  exact h.dropped ((h.slot i).cleared (st := .empty) rfl .removed)

variable {i s}

/-- A change of a record in service, within service. -/
theorem modifySlot_keepsSlots {f : Slot → Slot} (hst : (f (s.slot i)).state = (s.slot i).state)
    (hf : (s.slot i).Lawful → (f (s.slot i)).Lawful) : KeepsSlots s (s.modifySlot i f) :=
  ⟨fun h => h.record (hf (h.slot i)) fun hw => by exact hst ▸ hw⟩

theorem changeState_keepsSlots_of_service {f : Slot → Slot} {st : SlotState} {cause : LastCause}
    (hst : st.inService = true)
    (hf : (s.slot i).Lawful → Slot.Lawful { f (s.slot i) with state := st, lastCause := cause }) :
    KeepsSlots s (changeState i st cause (s.modifySlot i f)) := by
  refine ⟨fun h => ?_⟩
  rw [changeState_modifySlot fun _ => hst]
  exact h.record (hf (h.slot i)) fun _ => .inr hst

theorem failCheck_keepsSlots : KeepsSlots s (failCheck i s) := by
  have hlag : ∀ f : Slot → Nat, (s.slot i).state.inService = true →
      KeepsSlots s (s.modifySlot i fun r => { r with lag := f r }) := fun f hst =>
    modifySlot_keepsSlots rfl fun h => h.served hst hst fun _ => h.timer_kind hst
  cases hst : (s.slot i).state with
  | active =>
    have hs : (s.slot i).state.inService = true := by rw [hst]; rfl
    rw [failCheck_of_active hst]
    split
    · exact changeState_keepsSlots_of_service rfl fun h => h.served hs rfl fun _ => h.timer_kind hs
    · exact (hlag (fun _ => 1) hs).trans (enterFaulted_keepsSlots ..)
  | lagging =>
    have hs : (s.slot i).state.inService = true := by rw [hst]; rfl
    rw [failCheck_of_lagging hst]
    split
    · exact (hlag (fun r => r.lag + 1) hs).trans (enterFaulted_keepsSlots ..)
    · exact hlag (fun r => r.lag + 1) hs
  | _ =>
    simp only [failCheck, hst]
    exact .refl s

theorem skipCheck_keepsSlots : KeepsSlots s (skipCheck i s) := by
  have hskip : ∀ f : Slot → Nat, KeepsSlots s (s.modifySlot i fun r => { r with skip := f r }) := fun _ =>
    modifySlot_keepsSlots rfl fun h => { h with }
  unfold skipCheck
  split
  · exact hskip fun r => r.skip + 1
  · exact (hskip fun _ => 0).trans failCheck_keepsSlots

theorem passCheck_keepsSlots (hst : (s.slot i).state.inService = true) (word : Word) :
    KeepsSlots s (passCheck i word s) := by
  rcases (SlotState.inService_iff _).mp hst with ha | ha
  · rw [passCheck_active ha]
    exact ⟨fun h => h.record ((h.slot i).served hst hst fun _ => (h.slot i).timer_kind hst) id⟩
  · rw [passCheck_lagging ha]
    exact ⟨fun h => h.record ((h.slot i).served hst rfl fun _ => (h.slot i).timer_kind hst) fun _ => .inr rfl⟩

theorem judgeCheck_keepsSlots (r : Result) (data : List Byte) : KeepsSlots s (judgeCheck i r data s) := by
  have hfail : KeepsSlots s (failCheck i (s.modifySlot i fun x => { x with skip := 0 })) :=
    (modifySlot_keepsSlots rfl fun h => { h with }).trans failCheck_keepsSlots
  unfold judgeCheck
  split
  · next hst =>
    split
    · exact .refl s
    · split
      · exact passCheck_keepsSlots hst _
      · exact hfail
    · exact hfail
  · exact .refl s

theorem addItem_keepsSlots (hst : (s.slot i).state.Working) (read : WorkRead) : KeepsSlots s (addItem i read s) :=
  ⟨fun h => ⟨h.slots, fun w hw => (List.mem_append.mp hw).elim (h.work w) fun hn => by
    rw [List.mem_singleton.mp hn]
    exact hst⟩⟩

theorem checkDue_keepsSlots (hst : (s.slot i).state.inService = true) : KeepsSlots s (checkDue i s) := by
  unfold checkDue
  split
  · exact skipCheck_keepsSlots
  · split
    · exact .refl s
    · exact addItem_keepsSlots (.inr hst) .check

theorem skipItems_keepsSlots (s : State) : KeepsSlots s (skipItems s) := by
  have hall : ∀ (ws : List WorkItem) (u : State), KeepsSlots u (ws.foldl (fun s w => skipCheck w.slot s) u) := by
    intro ws
    induction ws with
    | nil => exact .refl
    | cons w ws ih => exact fun u => skipCheck_keepsSlots.trans (ih _)
  exact ⟨fun h => (hall _ _).lawful (h.fewer fun w hw => (List.mem_filter.mp hw).1)⟩

theorem superviseTakes_keepsSlots (i : SlotId) (r : Result) (s : State) : KeepsSlots s (superviseTakes i r s) := by
  unfold superviseTakes
  split
  · split
    · exact removeSlot_keepsSlots ..
    · exact .refl s
  · have hs : KeepsSlots s (s.modifySlot i fun r => { r with silence := min (r.silence + 1) 15 }) :=
      modifySlot_keepsSlots rfl fun h => { h with silence := Nat.min_le_right .. }
    dsimp only
    split
    · exact hs.trans (enterFaulted_keepsSlots ..)
    · exact hs
  · exact modifySlot_keepsSlots rfl fun h => { h with silence := Nat.zero_le _ }

/-! ### Enrollment (R92-R96) -/

theorem beginEnrollment_keepsSlots (hr : (s.slot i).state.AtRest) (cause : LastCause) :
    KeepsSlots s (beginEnrollment i cause s) := by
  rw [beginEnrollment_eq hr.inService_eq_false]
  exact ⟨fun h => h.joined ((h.slot i).enrolling hr ..) (.inl rfl) .descriptor⟩

/-- The next attempt, while the gap timer runs (R95). -/
theorem beginAttempt_keepsSlots (hst : (s.slot i).state = .enrolling) (ht : (s.slot i).timer ≠ none) :
    KeepsSlots s (beginAttempt i s) := by
  refine ⟨fun h => ?_⟩
  have hs : (s.slot i).step = .none := by
    by_contra hn
    exact ht ((h.slot i).step hn).2
  exact h.joined ((h.slot i).attempt hst (by simp [hs]) _) (.inl hst) .descriptor

theorem failAttempt_keepsSlots (hs : (s.slot i).step ≠ .none) (cause : SlotCause) :
    KeepsSlots s (failAttempt i cause s) := by
  refine ⟨fun h => ?_⟩
  have hst := ((h.slot i).step hs).1
  rcases Nat.lt_or_ge (s.slot i).attempts s.params.enrollAttempts with hn | hn
  · rw [failAttempt_again hn]
    exact h.record ((h.slot i).gap hst ..) fun _ => .inl hst
  · rw [failAttempt_last hn]
    refine (enterFaulted_keepsSlots i _ cause).lawful (h.record ?_ id)
    exact { h.slot i with held := by simp }

theorem judgeDescriptor_keepsSlots (hs : (s.slot i).step ≠ .none) (data : List Byte) :
    KeepsSlots s (judgeDescriptor i data s) := by
  refine ⟨fun h => ?_⟩
  have hst := ((h.slot i).step hs).1
  cases hv : validateDescriptor data with
  | error cause =>
    rw [judgeDescriptor_bad hv]
    exact (failAttempt_keepsSlots hs cause).lawful h
  | ok d =>
    rw [judgeDescriptor_good hv]
    exact h.joined ((h.slot i).holding hs (layoutGood_of_validate hv)) (.inl hst) .baseline

theorem enrollSucceeds_keepsSlots {d : Descriptor} (hd : (s.slot i).held = some d) (word : Word) :
    KeepsSlots s (enrollSucceeds i d word s) := by
  refine ⟨fun h => ?_⟩
  rw [enrollSucceeds_eq]
  exact h.record ((h.slot i).enrolled hd s.params) fun _ => .inr rfl

theorem superviseResult_keepsSlots (i : SlotId) (r : Result) (data : List Byte) (s : State) :
    KeepsSlots s (superviseResult i r data s) := by
  unfold superviseResult
  split
  · exact .refl s
  · split
    · next hs =>
      split
      · exact judgeDescriptor_keepsSlots (by simp [hs]) data
      · exact failAttempt_keepsSlots (by simp [hs]) _
    · next hs =>
      split
      · next hd _ => exact enrollSucceeds_keepsSlots hd _
      · exact failAttempt_keepsSlots (by simp [hs]) _
    · exact judgeCheck_keepsSlots r data

/-! ### Presence and the timers of a slot at rest (R87-R89, R105, R107) -/

theorem changeState_keepsSlots_of_rest (hr : (s.slot i).state.AtRest) {st : SlotState} {timer : Option SlotTimer}
    (hst : st.Rests timer) (cause : LastCause) :
    KeepsSlots s (changeState i st cause (s.modifySlot i fun r => { r with timer := timer })) := by
  rw [changeState_timer hr.inService_eq_false]
  exact ⟨fun h => h.record ((h.slot i).rest hr hst cause) fun hw => absurd hw hr.not_working⟩

theorem samplePresence_keepsSlots (hr : (s.slot i).state.AtRest) (cause : LastCause) :
    KeepsSlots s (samplePresence i cause s) := by
  unfold samplePresence
  split
  · exact changeState_keepsSlots_of_rest hr (st := .settling) ⟨_, rfl⟩ cause
  · exact changeState_keepsSlots_of_rest hr (st := .empty) rfl cause

end Acts

/-! ### The backplane, whose results reach the supervisor (R58, R65, R70, R71) -/

section Backplane

variable (s : State)

theorem KeepsSlots.secondResult {s t : State} (h : KeepsSlots s t) (p : Pair) (r : Result) :
    KeepsSlots s (secondResult p r t) := h.then_sup (by simp)

theorem sendSecond_keepsSlots (p : Pair) : KeepsSlots s (sendSecond p s) := by
  unfold sendSecond
  dsimp only
  split
  · exact .of_sup (by simp)
  · refine KeepsSlots.secondResult ?_ _ .absent
    split
    · exact .of_sup (by simp)
    · exact (KeepsSlots.of_sup (by simp)).trans (superviseTakes_keepsSlots ..)

theorem lockReadResult_keepsSlots (p : Pair) (r : Result) (data : List Byte) :
    KeepsSlots s (lockReadResult p r data s) := by
  unfold lockReadResult
  split
  · exact sendSecond_keepsSlots ..
  · dsimp only
    (repeat' split) <;> exact .of_sup (by simp)
  · exact .of_sup (by simp)

theorem pairResult_keepsSlots (p : Pair) (r : Result) (data : List Byte) : KeepsSlots s (pairResult p r data s) := by
  unfold pairResult
  split
  · exact lockReadResult_keepsSlots ..
  · exact .of_sup (by simp)
  · exact .of_sup (by simp)

theorem transferResult_keepsSlots (t : Tx) (r : Result) (data : List Byte) :
    KeepsSlots s (transferResult t r data s) := by
  unfold transferResult
  split
  · exact pairResult_keepsSlots ..
  · (repeat' split) <;> exact .of_sup (by simp)

theorem orphanResult_keepsSlots (t : Tx) (r : Result) (data : List Byte) :
    KeepsSlots s (orphanResult t r data s) := by
  unfold orphanResult
  split
  · exact transferResult_keepsSlots ..
  · exact .of_sup rfl
  · exact .refl _
  · exact .refl _

theorem deliver_keepsSlots (t : Tx) (r : Result) (data : List Byte) : KeepsSlots s (deliver t r data s) := by
  have ht := superviseTakes_keepsSlots t.slot r s
  unfold deliver
  split
  · exact .of_sup (by simp)
  · exact (ht.trans (superviseResult_keepsSlots ..)).returnGrant
  · exact ht.trans (transferResult_keepsSlots ..)
  · exact (ht.then_sup (by simp)).returnGrant

theorem finishTx_keepsSlots (t : Tx) (r : Result) (data : List Byte) : KeepsSlots s (finishTx t r data s) := by
  have hc : KeepsSlots s (clearTx t r s) := .of_sup (by simp)
  unfold finishTx
  dsimp only
  split
  · exact hc.trans (orphanResult_keepsSlots ..)
  · exact hc.trans (deliver_keepsSlots ..)

theorem beginTx_keepsSlots (t : Tx) : KeepsSlots s (beginTx t s) := by
  unfold beginTx
  split
  · exact .of_sup (by simp)
  · exact finishTx_keepsSlots ..

theorem slotLost_keepsSlots (i : SlotId) : KeepsSlots s (slotLost i s) := by
  unfold slotLost
  split
  · split
    · exact finishTx_keepsSlots ..
    · exact .refl s
  · (repeat' split) <;> exact .of_sup (by simp)

theorem startSegment_keepsSlots (t : Transfer) (slot : SlotId) (addr : ModAddr) (entry : Option Nat) :
    KeepsSlots s (startSegment t slot addr entry s) :=
  (KeepsSlots.of_sup (by simp)).trans (beginTx_keepsSlots ..)

theorem issueHead_keepsSlots (t : Transfer) : KeepsSlots s (issueHead t s) := by
  unfold issueHead
  split
  · exact .of_sup (by simp)
  · exact .of_sup (by simp)
  · split
    · exact startSegment_keepsSlots ..
    · exact .of_sup (by simp)

end Backplane

/-! ### A slot whose reset line has been asserted (R104, R106)

Between the change of state and the reply owed to a SLOT_ENROLL the record is not lawful; the transaction that ends in
between finds a slot that can be removed no more, and leaves the supervisor alone. -/

section Reset

variable {s : State}

theorem transferResult_absent_sup (t : Tx) (data : List Byte) (s : State) :
    (transferResult t .absent data s).sup = s.sup := by
  unfold transferResult
  split
  · unfold pairResult
    split <;> simp [lockReadResult]
  · (repeat' split) <;> simp

theorem finishTx_absent_sup {t : Tx} (h : (s.slot t.slot).state.removable = false) (data : List Byte) :
    (finishTx t .absent data s).sup = s.sup := by
  have ht : ∀ u : State, u.sup = s.sup → superviseTakes t.slot .absent u = u := fun u hu =>
    superviseTakes_absent_kept (.inr (by rw [State.slot, hu]; exact h))
  unfold finishTx
  dsimp only
  split
  · unfold orphanResult
    split <;> simp [transferResult_absent_sup]
  · unfold deliver
    rw [ht _ (by simp)]
    split <;> simp [transferResult_absent_sup, superviseResult]

theorem slotLost_sup {i : SlotId} (h : (s.slot i).state.removable = false) : (slotLost i s).sup = s.sup := by
  unfold slotLost
  split
  · split
    · next hi => exact finishTx_absent_sup (by rw [hi]; exact h) _
    · rfl
  · (repeat' split) <;> simp

theorem enrollDown_sup {i : SlotId} {u : Supervisor} (h : s.sup = u) :
    (enrollDown i s).sup = { u with slots := u.slots.set i { u.slots[i] with enrollReply := none } } := by
  rw [enrollDown_eq, ← h]
  rfl

theorem assertReset_sup {st : SlotState} (hst : st.removable = false) (i : SlotId) (cause : LastCause)
    (timer : Option SlotTimer) (s : State) : (assertReset i st cause timer s).sup = {
      slots := s.sup.slots.set i
        { (s.slot i).clearedCounts timer with state := st, lastCause := cause, enrollReply := none }
      work := s.sup.work.filter fun w => w.slot ≠ i } := by
  have hs : st.inService = false := by
    cases hi : st.inService with
    | false => rfl
    | true => rcases (SlotState.inService_iff st).mp hi with rfl | rfl <;> cases hst
  rw [assertReset_eq hs, enrollDown_sup (slotLost_sup (by simpa [State.slot] using hst))]
  simp [Vector.set_set]

theorem assertReset_keepsSlots {st : SlotState} {timer : Option SlotTimer} (hr : st.Rests timer)
    (hst : st.removable = false) (i : SlotId) (cause : LastCause) (s : State) :
    KeepsSlots s (assertReset i st cause timer s) := by
  refine ⟨fun h => ?_⟩
  rw [assertReset_sup hst]
  exact h.dropped ((h.slot i).cleared hr cause)

end Reset

end Sys2Proof.Machine

/-! ## The law of the slot records and the work list: the owners of the requests -/

namespace Sys2Proof.Machine

set_option Elab.async false

/-! ### The owners that have no part in the supervisor -/

section Owners

variable (p : List Byte) (r : ReqId) (s : State)

theorem windowSetOwner_sup : (windowSetOwner p r s).sup = s.sup := by
  unfold windowSetOwner
  (repeat' split) <;> simp

theorem windowClearOwner_sup : (windowClearOwner p r s).sup = s.sup := by
  unfold windowClearOwner clearWindow
  (repeat' split) <;> simp

theorem windowGetOwner_sup : (windowGetOwner p r s).sup = s.sup := by
  unfold windowGetOwner
  (repeat' split) <;> simp

theorem writePages_sup (first : Nat) (es : List PageEntry) : (writePages first es s).sup = s.sup := by
  rw [writePages_eq]

theorem clearPages_sup (first count : Nat) : (clearPages first count s).sup = s.sup := by
  rw [clearPages_eq]

theorem pageWriteOwner_sup : (pageWriteOwner p r s).sup = s.sup := by
  unfold pageWriteOwner
  (repeat' split) <;> simp [writePages_sup]

theorem pageReadOwner_sup : (pageReadOwner p r s).sup = s.sup := by
  unfold pageReadOwner
  (repeat' split) <;> simp

theorem pageSweepOwner_sup : (pageSweepOwner p r s).sup = s.sup := by
  unfold pageSweepOwner
  (repeat' split) <;> simp [clearPages_sup]

theorem acceptAccess_sup (start : Word) (length : Nat) (kind : XferKind) :
    (acceptAccess r start length kind s).sup = s.sup := by
  unfold acceptAccess joinQueue
  (repeat' split) <;> simp

theorem accessReadOwner_sup : (accessReadOwner p r s).sup = s.sup := by
  unfold accessReadOwner
  (repeat' split) <;> simp [acceptAccess_sup]

theorem accessWriteOwner_sup : (accessWriteOwner p r s).sup = s.sup := by
  unfold accessWriteOwner
  (repeat' split) <;> simp [acceptAccess_sup]

theorem accessSwapOwner_sup : (accessSwapOwner p r s).sup = s.sup := by
  unfold accessSwapOwner
  split <;> simp [acceptAccess_sup]

theorem accessFenceOwner_sup : (accessFenceOwner p r s).sup = s.sup := by
  unfold accessFenceOwner
  (repeat' split) <;> simp

theorem answerAborted_sup (e : QEntry) : (answerAborted e r s).sup = s.sup := by
  cases e <;> simp [answerAborted]

theorem abortAt_sup (n : Nat) (e : QEntry) : (abortAt n e r s).sup = s.sup := by
  have hw : (if n = 0 then withdrawRequest .transfer s else s).sup = s.sup := by split <;> simp
  unfold abortAt
  split
  · split
    · simp
    · simp [answerAborted_sup, hw]
  · simp [answerAborted_sup]

theorem accessAbortOwner_sup : (accessAbortOwner p r s).sup = s.sup := by
  unfold accessAbortOwner
  (repeat' split) <;> simp [abortAt_sup]

theorem holdAcquireOwner_sup : (holdAcquireOwner p r s).sup = s.sup := by
  unfold holdAcquireOwner
  (repeat' split) <;> simp

theorem holdCycleOwner_sup : (holdCycleOwner p r s).sup = s.sup := by
  unfold holdCycleOwner takeCycle
  (repeat' split) <;> simp

theorem holdReleaseOwner_sup : (holdReleaseOwner p r s).sup = s.sup := by
  unfold holdReleaseOwner releaseHold
  (repeat' split) <;> simp

theorem postCreditOwner_sup : (postCreditOwner p r s).sup = s.sup := by
  unfold postCreditOwner
  (repeat' split) <;> simp

theorem attentionMaskOwner_sup : (attentionMaskOwner p r s).sup = s.sup := by
  unfold attentionMaskOwner
  split <;> simp

theorem faultReadOwner_sup : (faultReadOwner p r s).sup = s.sup := by
  unfold faultReadOwner
  (repeat' split) <;> simp

theorem faultClearOwner_sup : (faultClearOwner p r s).sup = s.sup := by
  unfold faultClearOwner
  (repeat' split) <;> simp

theorem noticeMaskOwner_sup : (noticeMaskOwner p r s).sup = s.sup := by
  unfold noticeMaskOwner
  (repeat' split) <;> simp

theorem echoOwner_sup : (echoOwner p r s).sup = s.sup := by
  unfold echoOwner
  split <;> simp

theorem configGetOwner_sup : (configGetOwner p r s).sup = s.sup := by
  unfold configGetOwner
  split <;> simp

theorem bridgeResetOwner_sup : (bridgeResetOwner p r s).sup = s.sup := by
  unfold bridgeResetOwner
  split <;> simp

end Owners

/-! ### The owners of the slot requests and CONFIG_SET (R96, R97, R104, R106-R108, R181) -/

section Slots

variable (p : List Byte) (i : SlotId) (r : ReqId) (s : State)

theorem onSlot_keepsSlots {act : SlotId → ReqId → State → State} (h : ∀ i r s, KeepsSlots s (act i r s)) :
    KeepsSlots s (onSlot p act r s) := by
  unfold onSlot
  split
  · exact (KeepsSlots.refl s).queueReply ..
  · split
    · exact (KeepsSlots.refl s).queueReply ..
    · exact h ..

theorem enrollSlot_keepsSlots : KeepsSlots s (enrollSlot i r s) := by
  by_cases hst : (s.slot i).state = .present
  · rw [enrollSlot_of_present hst]
    refine KeepsSlots.settle ⟨fun h => ?_⟩
    have hr : (s.slot i).state.AtRest := by rw [hst]; decide
    exact h.joined ((h.slot i).enrolling hr (s.slot i).lastCause (some r)) (.inl rfl) .descriptor
  · rw [enrollSlot_refused hst]
    exact (KeepsSlots.refl s).queueReply ..

theorem resetSlot_keepsSlots : KeepsSlots s (resetSlot i r s) := by
  unfold resetSlot
  split
  · exact (KeepsSlots.refl s).queueReply ..
  · exact ((assertReset_keepsSlots (st := .resetting) ⟨_, rfl⟩ rfl ..).queueReply ..).settle

theorem offSlot_keepsSlots : KeepsSlots s (offSlot i r s) := by
  unfold offSlot
  split
  · exact (KeepsSlots.refl s).queueReply ..
  · exact ((assertReset_keepsSlots (st := .off) rfl rfl ..).queueReply ..).settle

theorem onSlotAgain_keepsSlots : KeepsSlots s (onSlotAgain i r s) := by
  by_cases hst : (s.slot i).state = .off
  · rw [onSlotAgain_of_off hst]
    exact (samplePresence_keepsSlots (by rw [hst]; decide) .on).queueReply ..
  · rw [onSlotAgain_refused hst]
    exact (KeepsSlots.refl s).queueReply ..

theorem setParams_keepsSlots (q : Params) : KeepsSlots s (setParams q s) := by
  have hm : ∀ j : SlotId, (s.sup.slots.map fun x => x.switchCheck s.params.checkInterval q.checkInterval)[j] =
      s.sup.slots[j].switchCheck s.params.checkInterval q.checkInterval := fun j => Vector.getElem_map ..
  refine ⟨fun h => ⟨fun j => ?_, fun w hw => ?_⟩⟩
  · exact (hm j).symm ▸ (h.slots j).switchCheck ..
  · have hst := h.work w hw
    rw [← switchCheck_state s.sup.slots[w.slot] s.params.checkInterval q.checkInterval, ← hm w.slot] at hst
    exact hst

theorem configSetOwner_keepsSlots : KeepsSlots s (configSetOwner p r s) := by
  unfold configSetOwner
  split
  · exact (KeepsSlots.refl s).queueReply ..
  · split
    · exact (KeepsSlots.refl s).queueReply ..
    · exact (setParams_keepsSlots ..).queueReply ..

end Slots

/-! ### Every owner, and the receive line (R165, R166, R168, R170) -/

theorem ite_keepsSlots {c : Prop} [Decidable c] {f g : ReqId → State → State} (hf : ∀ r s, KeepsSlots s (f r s))
    (hg : ∀ r s, KeepsSlots s (g r s)) : ∀ r s, KeepsSlots s ((if c then f else g) r s) := by
  split <;> assumption

theorem ite_sup {c : Prop} [Decidable c] {f g : ReqId → State → State} (hf : ∀ r s, (f r s).sup = s.sup)
    (hg : ∀ r s, KeepsSlots s (g r s)) : ∀ r s, KeepsSlots s ((if c then f else g) r s) :=
  ite_keepsSlots (fun r s => .of_sup (hf r s)) hg

theorem ownerOf_keepsSlots (kind : Byte) (p : List Byte) : ∀ r s, KeepsSlots s (ownerOf kind p r s) := by
  refine ite_sup (windowSetOwner_sup p) ?_
  refine ite_sup (windowClearOwner_sup p) ?_
  refine ite_sup (windowGetOwner_sup p) ?_
  refine ite_sup (pageWriteOwner_sup p) ?_
  refine ite_sup (pageReadOwner_sup p) ?_
  refine ite_sup (pageSweepOwner_sup p) ?_
  refine ite_sup (accessReadOwner_sup p) ?_
  refine ite_sup (accessWriteOwner_sup p) ?_
  refine ite_sup (accessSwapOwner_sup p) ?_
  refine ite_sup (accessFenceOwner_sup p) ?_
  refine ite_sup (accessAbortOwner_sup p) ?_
  refine ite_keepsSlots (fun r s => onSlot_keepsSlots p r s fun i r s => (KeepsSlots.refl s).queueReply ..) ?_
  refine ite_keepsSlots (fun r s => onSlot_keepsSlots p r s enrollSlot_keepsSlots) ?_
  refine ite_keepsSlots (fun r s => onSlot_keepsSlots p r s resetSlot_keepsSlots) ?_
  refine ite_keepsSlots (fun r s => onSlot_keepsSlots p r s offSlot_keepsSlots) ?_
  refine ite_keepsSlots (fun r s => onSlot_keepsSlots p r s onSlotAgain_keepsSlots) ?_
  refine ite_sup (holdAcquireOwner_sup p) ?_
  refine ite_sup (holdCycleOwner_sup p) ?_
  refine ite_sup (holdReleaseOwner_sup p) ?_
  refine ite_sup (postCreditOwner_sup p) ?_
  refine ite_sup (attentionMaskOwner_sup p) ?_
  refine ite_sup (faultReadOwner_sup p) ?_
  refine ite_sup (faultClearOwner_sup p) ?_
  refine ite_sup (noticeMaskOwner_sup p) ?_
  refine ite_sup (echoOwner_sup p) ?_
  refine ite_sup (configGetOwner_sup p) ?_
  refine ite_keepsSlots (configSetOwner_keepsSlots p) ?_
  refine ite_sup (bridgeResetOwner_sup p) ?_
  exact fun r s => (KeepsSlots.refl s).queueReply ..

theorem handOn_keepsSlots (kind seq : Byte) (payload : List Byte) (s : State) :
    KeepsSlots s (handOn kind seq payload (ownerOf kind payload) s) := by
  unfold handOn
  dsimp only
  split
  · exact .refl s
  · exact .of_sup rfl
  · exact .of_sup rfl
  · have hl : KeepsSlots s { s with link := s.link.accept (reqId kind seq payload s) } := .of_sup rfl
    exact hl.trans (ownerOf_keepsSlots ..)

theorem beginBreak_sup (s : State) : (beginBreak s).sup = s.sup := by
  rw [beginBreak_eq]
  split <;> rfl

section Line

variable {s₀ : State}

theorem withFramer_keepsSlots (f : Framer) (s : State) (h : KeepsSlots s₀ s) : KeepsSlots s₀ (s.withFramer f) :=
  h.then_sup rfl

theorem passOn_keepsSlots (q : RxRequest) (s : State) (h : KeepsSlots s₀ s) : KeepsSlots s₀ (passOn q s) :=
  h.trans (handOn_keepsSlots ..)

theorem withLowRun_keepsSlots (run : Nat) (s : State) (h : KeepsSlots s₀ s) (_ : s.link.phase ≠ .brk)
    (_ : run < Config.breakTimes) : KeepsSlots s₀ (s.withLowRun run) := h.then_sup rfl

theorem beginBreak_keepsSlots (s : State) (h : KeepsSlots s₀ s) (_ : s.link.phase ≠ .brk) :
    KeepsSlots s₀ (settle (beginBreak s)) := (h.then_sup (beginBreak_sup s)).settle

theorem endBreak_keepsSlots (s : State) (h : KeepsSlots s₀ s) (_ : s.link.phase = .brk) :
    KeepsSlots s₀ (endBreak s) := h.then_sup rfl

end Line

theorem hearLevels_keepsSlots (cs : List LineChar) (heard : List RxChar) (s : State) :
    KeepsSlots s (hearLevels cs heard s) :=
  hearLevels_keeps (P := KeepsSlots s) withFramer_keepsSlots passOn_keepsSlots withLowRun_keepsSlots
    beginBreak_keepsSlots endBreak_keepsSlots cs heard (.refl s)

theorem onRequest_keepsSlots (kind seq : Byte) (payload : List Byte) (s : State) :
    KeepsSlots s (onRequest kind seq payload (ownerOf kind payload) s) :=
  onRequest_keeps (P := KeepsSlots s) withFramer_keepsSlots passOn_keepsSlots withLowRun_keepsSlots
    beginBreak_keepsSlots endBreak_keepsSlots (fun _ h => h.trans (handOn_keepsSlots ..)) (.refl s)

/-! ### Every command -/

section Commands

variable (s : State)

theorem execFrameSent_keepsSlots {t : State} (h : execFrameSent s = .next t) : KeepsSlots s t := by
  cases h
  split
  · exact .refl s
  · refine KeepsSlots.settle ?_
    split <;> exact .of_sup (by simp)

theorem execTransferGrant_keepsSlots {t : State} (h : execTransferGrant s = .next t) : KeepsSlots s t := by
  cases h
  split
  · refine KeepsSlots.settle ?_
    split
    · exact (KeepsSlots.of_sup (by simp)).trans (issueHead_keepsSlots (takeGrant .transfer s) _)
    · exact .of_sup (by simp)
  · exact .refl s

theorem execSuperviseGrant_keepsSlots {t : State} (h : execSuperviseGrant s = .next t) : KeepsSlots s t := by
  cases h
  split
  · refine KeepsSlots.settle ?_
    split
    · next w rest hw =>
      have hw : s.sup.work = w :: rest := hw
      have hrest : KeepsSlots s { takeGrant .supervise s with sup := { s.sup with work := rest } } :=
        ⟨fun h => h.fewer fun x hx => hw ▸ List.mem_cons_of_mem _ hx⟩
      dsimp only
      split
      · exact hrest.trans (beginTx_keepsSlots ..)
      · exact hrest.returnGrant
    · exact .of_sup (by simp)
  · exact .refl s

theorem execInboundGrant_keepsSlots {t : State} (h : execInboundGrant s = .next t) : KeepsSlots s t := by
  cases h
  split
  · refine KeepsSlots.settle ?_
    split
    · split
      · exact (KeepsSlots.of_sup (by simp)).trans (beginTx_keepsSlots ..)
      · exact .of_sup (by simp)
    · split
      · exact (KeepsSlots.of_sup (by simp)).trans (beginTx_keepsSlots ..)
      · exact .of_sup (by simp)
  · exact .refl s

theorem execHoldGrant_keepsSlots {t : State} (h : execHoldGrant s = .next t) : KeepsSlots s t := by
  cases h
  split
  · exact (KeepsSlots.trans (.of_sup (by simp)) (skipItems_keepsSlots _)).settle
  · exact .refl s

theorem execRequestDriven_keepsSlots {t : State} (h : execRequestDriven s = .next t) : KeepsSlots s t := by
  cases h
  (repeat' split) <;> exact .of_sup (by simp)

theorem execResponseCodeArrives_keepsSlots {code : ResponseCode} {good : Bool} {t : State}
    (h : execResponseCodeArrives code good s = .next t) : KeepsSlots s t := by
  cases h
  split
  · split
    · refine KeepsSlots.settle ?_
      split
      · exact .of_sup (by simp)
      · refine KeepsSlots.trans (.of_sup ?_) (finishTx_keepsSlots ..)
        split <;> simp
    · exact .refl s
  · exact .refl s

theorem execReadDataWordArrives_keepsSlots {word : Word} {parity : BitVec 4} {t : State}
    (h : execReadDataWordArrives word parity s = .next t) : KeepsSlots s t := by
  have hd : ∀ c, KeepsSlots s (driveCheck c s) := fun _ => .of_sup (by simp)
  cases h
  split
  · split
    · refine KeepsSlots.settle ?_
      split
      · exact .of_sup (by simp)
      · split <;> exact (hd _).trans (finishTx_keepsSlots ..)
    · exact .refl s
  · exact .refl s

theorem execResponseTimerExpiry_keepsSlots {t : State} (h : execResponseTimerExpiry s = .next t) :
    KeepsSlots s t := by
  cases h
  split
  · split
    · refine KeepsSlots.settle (KeepsSlots.trans (.of_sup ?_) (finishTx_keepsSlots ..))
      split <;> simp
    · exact .refl s
  · exact .refl s

theorem execRetryDelayExpiry_keepsSlots {t : State} (h : execRetryDelayExpiry s = .next t) : KeepsSlots s t := by
  cases h
  (repeat' split) <;> exact .of_sup (by simp)

theorem execSwapResendDelayExpiry_keepsSlots {t : State} (h : execSwapResendDelayExpiry s = .next t) :
    KeepsSlots s t := by
  cases h
  split
  · split
    · exact (sendSecond_keepsSlots ..).settle
    · exact .refl s
  · exact .refl s

variable (i : SlotId)

theorem execSettleTimerExpiry_keepsSlots {t : State} (h : execSettleTimerExpiry i s = .next t) :
    KeepsSlots s t := by
  cases h
  split
  · next hs =>
    have hr : (s.slot i).state.AtRest := by rw [hs.1]; decide
    refine KeepsSlots.settle ?_
    split
    · exact beginEnrollment_keepsSlots hr .settled
    · exact changeState_keepsSlots_of_rest hr (st := .present) rfl .settled
  · exact .refl s

theorem execAttemptGapExpiry_keepsSlots {t : State} (h : execAttemptGapExpiry i s = .next t) : KeepsSlots s t := by
  cases h
  split
  · next hs =>
    obtain ⟨hst, hrun⟩ := hs
    obtain ⟨ms, ht⟩ := (timerRuns_iff ..).mp hrun
    exact (beginAttempt_keepsSlots hst (by simp [ht])).settle
  · exact .refl s

theorem execCheckTimerExpiry_keepsSlots {t : State} (h : execCheckTimerExpiry i s = .next t) : KeepsSlots s t := by
  cases h
  split
  · next hs =>
    have hm : KeepsSlots s (s.modifySlot i fun r => { r with timer := checkTimer s.params }) :=
      modifySlot_keepsSlots rfl fun h => h.served hs.1 hs.1 fun _ => checkTimer_kind
    exact (hm.trans (checkDue_keepsSlots (by rw [modifySlot_slot_self]; exact hs.1))).settle
  · exact .refl s

theorem execPulseTimerExpiry_keepsSlots {t : State} (h : execPulseTimerExpiry i s = .next t) : KeepsSlots s t := by
  cases h
  split
  · next hs => exact samplePresence_keepsSlots (by rw [hs.1]; decide) _
  · exact .refl s

theorem execPresenceActive_keepsSlots {t : State} (h : execPresenceActive i s = .next t) : KeepsSlots s t := by
  have hp : KeepsSlots s (setPresence i true s) := .of_sup rfl
  cases h
  split
  · exact .refl s
  · dsimp only
    split
    · next hs =>
      have hr : ((setPresence i true s).slot i).state.AtRest := by rw [hs]; decide
      exact hp.trans (changeState_keepsSlots_of_rest hr (st := .settling) ⟨_, rfl⟩ .inserted)
    · exact hp

theorem presenceLost_keepsSlots : KeepsSlots s (presenceLost i s) := by
  unfold presenceLost
  split
  · next hs => exact changeState_keepsSlots_of_rest (by rw [hs]; decide) (st := .empty) rfl .removed
  · split
    · exact removeSlot_keepsSlots ..
    · exact .refl s

theorem execPresenceInactive_keepsSlots {t : State} (h : execPresenceInactive i s = .next t) : KeepsSlots s t := by
  have hp : KeepsSlots s (setPresence i false s) := .of_sup rfl
  cases h
  split
  · have hl := hp.trans (presenceLost_keepsSlots (setPresence i false s) i)
    have hu : KeepsSlots s (unlockModule i (presenceLost i (setPresence i false s))) := hl.then_sup (by simp)
    exact (hu.trans (slotLost_keepsSlots ..)).settle
  · exact .refl s

/-- The slots at power-on are lawful, whatever the state before (R85). -/
theorem execPowerOn_keepsSlots {pins : PowerPins} {t : State} (h : execPowerOn pins s = .next t) :
    KeepsSlots s t := by
  cases h
  refine ⟨fun _ => ⟨fun j => ?_, by simp [State.reset]⟩⟩
  have hj : (Vector.ofFn fun j : SlotId => powerOnSlot (pins.presence.getLsbD j.val))[j] =
      powerOnSlot (pins.presence.getLsbD j.val) := by simp
  exact hj.symm ▸ powerOnSlot_lawful _

theorem completeReset_keepsSlots : KeepsSlots s (completeReset s) := by
  have hsup : (completeReset s).sup = { slots := s.sup.slots.map fun r => r.completeReset s.params, work := [] } := by
    simp [completeReset]
  refine ⟨fun h => hsup ▸ ⟨fun j => ?_, by simp⟩⟩
  have hj : (s.sup.slots.map fun r => r.completeReset s.params)[j] = s.sup.slots[j].completeReset s.params :=
    Vector.getElem_map ..
  exact hj.symm ▸ (h.slots j).completeReset s.params

theorem execBridgeResetComplete_keepsSlots {t : State} (h : execBridgeResetComplete s = .next t) :
    KeepsSlots s t := by
  cases h
  split
  · exact (completeReset_keepsSlots s).settle
  · exact .refl s

end Commands

/-- Every command keeps the law of the slot records and the work list. -/
theorem exec_keepsSlots (c : Instr) (s : State) {t : State} (h : exec c s = .next t) : KeepsSlots s t := by
  cases hr : c.request with
  | some q =>
    obtain ⟨kind, seq, payload⟩ := q
    rw [exec_request hr] at h
    cases h
    split
    · exact onRequest_keepsSlots ..
    · exact .refl s
  | none =>
    cases c with
    | powerOn pins => exact execPowerOn_keepsSlots s h
    | frameSent => exact execFrameSent_keepsSlots s h
    | bridgeResetComplete => exact execBridgeResetComplete_keepsSlots s h
    | transferGrant => exact execTransferGrant_keepsSlots s h
    | superviseGrant => exact execSuperviseGrant_keepsSlots s h
    | inboundGrant => exact execInboundGrant_keepsSlots s h
    | holdGrant => exact execHoldGrant_keepsSlots s h
    | requestDriven => exact execRequestDriven_keepsSlots s h
    | responseCodeArrives code good => exact execResponseCodeArrives_keepsSlots s h
    | readDataWordArrives word parity => exact execReadDataWordArrives_keepsSlots s h
    | responseTimerExpiry => exact execResponseTimerExpiry_keepsSlots s h
    | retryDelayExpiry => exact execRetryDelayExpiry_keepsSlots s h
    | swapResendDelayExpiry => exact execSwapResendDelayExpiry_keepsSlots s h
    | presenceActive i => exact execPresenceActive_keepsSlots s i h
    | presenceInactive i => exact execPresenceInactive_keepsSlots s i h
    | settleTimerExpiry i => exact execSettleTimerExpiry_keepsSlots s i h
    | attemptGapExpiry i => exact execAttemptGapExpiry_keepsSlots s i h
    | checkTimerExpiry i => exact execCheckTimerExpiry_keepsSlots s i h
    | pulseTimerExpiry i => exact execPulseTimerExpiry_keepsSlots s i h
    | frameDiscard chars => cases h; exact hearLevels_keepsSlots ..
    | breakBegin => cases h; split; exacts [.refl s, (KeepsSlots.of_sup (beginBreak_sup s)).settle]
    | limitTimerExpiry => cases h; split <;> exact .of_sup (by simp)
    | holdEnds => cases h; split <;> exact .of_sup (by simp)
    | breakEnd => cases h; split <;> exact .of_sup rfl
    | outputFrameBegin => cases h; split <;> exact .of_sup (by simp)
    | backOffExpiry i => cases h; split <;> exact .of_sup (by simp)
    | stampTick => cases h; exact .of_sup rfl
    | attentionChange i level => cases h; exact .of_sup (by simp)
    | windowDrainEnd w => cases h; exact .of_sup (by simp)
    | fenceAtHead => cases h; exact .of_sup (by simp)
    | _ => cases hr

/-- Settles O57: a step runs the front command, and every command keeps the law of the supervisor's block. -/
theorem slotLawKept : Obligations.SlotLawKept := by
  intro s t hs h
  have hk : KeepsSlots s t := by
    unfold step at h
    split at h
    · next c rest _ =>
      have hp : KeepsSlots s { s with pending := rest } := .of_sup rfl
      exact hp.trans (exec_keepsSlots c _ h)
    · cases h
      exact .refl s
  rw [State.slotLaw_iff] at hs ⊢
  exact hk.lawful hs
end Sys2Proof.Machine

/-! ## The hold requests, the limit timer and HOLD_ENDS -/

namespace Sys2Proof.Machine

set_option Elab.async false

/-! ### HOLD_ACQUIRE (R115) -/

theorem parseLimit_eq_none {p : List Byte} (h : p.length ≠ 2) : parseLimit p = none := by
  match p with
  | [] | [_] | _ :: _ :: _ :: _ => rfl
  | [_, _] => exact absurd rfl h

/-- Settles O33: the payload, the limit's range and the hold's state, in the order of R115. -/
theorem holdAcquire : Obligations.HoldAcquire := by
  intro seq payload s ha
  have hx : exec (.holdAcquire seq payload) s = .next (settle (holdAcquireOwner payload
      (reqId Kind.holdAcquire seq payload s) (s.accepted Kind.holdAcquire seq payload))) :=
    exec_of_accepts rfl rfl ha
  simp only [hx, holdAcquireOwner, accepted_frame]
  refine ⟨fun hp => ?_, fun n hn => ⟨fun hbad => ?_, fun h1 hmax => ⟨fun hbusy => ?_, fun hidle => ?_⟩⟩⟩
  · simp only [parseLimit_eq_none hp, queueReply_accepted]
  · simp only [hn, if_pos hbad, queueReply_accepted]
  all_goals
    have hgood : ¬(n = 0 ∨ s.params.holdLimit < n) := by omega
    simp only [hn, if_neg hgood]
  · rw [if_pos hbusy, queueReply_accepted]
  · rw [if_neg (not_not.mpr hidle)]

/-! ### A hold whose end cause is set (R121) -/

theorem holdMayEnd_of_over {s : State} (hs : s.hold.state = .held) (he : s.hold.endCause ≠ none)
    (hc : s.hold.cycle = none) : holdMayEnd s = endHold s := by
  rw [holdMayEnd, if_pos ⟨hs, Option.isSome_iff_ne_none.mpr he, Option.isNone_iff_eq_none.mpr hc⟩]

theorem holdMayEnd_of_lasting {s : State} (h : s.hold.state ≠ .held ∨ s.hold.endCause = none ∨ s.hold.cycle ≠ none) :
    holdMayEnd s = s := by
  rw [holdMayEnd, if_neg]
  rintro ⟨hs, he, hc⟩
  rcases h with h | h | h
  · exact h hs
  · simp [h] at he
  · exact h (Option.isNone_iff_eq_none.mp hc)

/-- A hold that ends with no queued cycle, and not by the limit timer, answers an owed release and nothing else. -/
theorem endHold_of_no_cycles {s : State} (hq : s.hold.cycles = []) (he : s.hold.endCause ≠ some .expiry) :
    endHold s = { queueOwed s.hold.releaseReply .ok [] s with
      hold := s.hold.ended, arb := { s.arb with holder := none } } := by
  simp [endHold, hq, he, queueReplies, returnGrant, Hold.ended]

/-! ### HOLD_RELEASE (R119) -/

section Release

variable {r : ReqId} {s : State}

/-- Without a hold, or with one that is ending already, there is nothing to release. -/
theorem releaseHold_of_no_hold (h : s.hold.state = .idle ∨ s.hold.state = .held ∧ s.hold.endCause ≠ none) :
    releaseHold r s = queueReply r .notHeld [] s := by
  rcases h with hs | ⟨hs, he⟩
  · simp only [releaseHold, hs]
  · simp only [releaseHold, hs, Option.isSome_iff_ne_none.mpr he, if_true]

/-- A PENDING hold is given up: its HOLD_ACQUIRE is CANCELLED before the release is answered OK. -/
theorem releaseHold_of_pending {q : ReqId} (hs : s.hold.state = .pending) (hq : s.hold.acquire = some q)
    (hl : q.session = s.link.session) (hr : r.session = s.link.session) :
    releaseHold r s = { s with
      hold := { s.hold with state := .idle, acquire := none, limit := none }
      link := { s.link with replies := s.link.replies ++ [q.reply .cancelled [], r.reply .ok []] } } := by
  simp only [releaseHold, hs, hq, queueOwed_some, queueReply_of_session hl]
  rw [queueReply_of_session (by exact hr)]
  simp

theorem releaseHold_of_held (hs : s.hold.state = .held) (he : s.hold.endCause = none) :
    releaseHold r s = holdMayEnd { s with hold := s.hold.ending .release (some r) } := by
  simp only [releaseHold, hs, he, Option.isSome_none, Bool.false_eq_true, if_false, Hold.ending]

/-- With no cycle in progress a released hold ends at once. -/
theorem releaseHold_of_free (hs : s.hold.state = .held) (he : s.hold.endCause = none) (hc : s.hold.cycle = none)
    (hq : s.hold.cycles = []) :
    releaseHold r s = { queueReply r .ok [] s with
      hold := s.hold.ended, arb := { s.arb with holder := none } } := by
  rw [releaseHold_of_held hs he, holdMayEnd_of_over (by exact hs) (by simp [Hold.ending]) (by exact hc),
    endHold_of_no_cycles (by exact hq) (by simp [Hold.ending])]
  simp only [Hold.ending, queueOwed_some, queueReply_eq]
  rfl

end Release

/-- Settles O37: an unfitting payload, then the hold unit's states one by one. -/
theorem holdRelease : Obligations.HoldRelease := by
  intro seq payload s ha
  have hx : exec (.holdRelease seq payload) s = .next (settle (holdReleaseOwner payload
      (reqId Kind.holdRelease seq payload s) (s.accepted Kind.holdRelease seq payload))) :=
    exec_of_accepts rfl rfl ha
  rw [hx]
  refine ⟨fun hp => ?_, fun hp => ?_⟩
  · simp only [holdReleaseOwner, parseEmpty_eq_none hp, queueReply_accepted]
  · have hrel : holdReleaseOwner payload = releaseHold := by rw [hp]; rfl
    rw [hrel]
    refine ⟨fun hno => ?_, fun q hs hq hl => ?_, fun hs he hc => ?_, fun hs he hc hq => ?_⟩
    · rw [releaseHold_of_no_hold (by exact hno), queueReply_accepted]
    · rw [releaseHold_of_pending (by exact hs) (by exact hq) (by exact hl) rfl]
      rfl
    · rw [releaseHold_of_held (by exact hs) (by exact he), holdMayEnd_of_lasting (by exact .inr (.inr hc))]
      rfl
    · rw [releaseHold_of_free (by exact hs) (by exact he) (by exact hc) (by exact hq), queueReply_accepted]
      simp only [accepted_frame, Hold.ended, ← hq]

/-! ### The limit timer and HOLD_ENDS (R120, R121) -/

/-- Until a bridge reset is taken HOLD_ENDS ends a hold that is over (log 5). -/
theorem exec_holdEnds {s : State} (hr : s.link.resetTaken = false) :
    exec .holdEnds s = .next (settle (holdMayEnd s)) := by
  simp [exec, execHoldEnds, hr]

/-- Settles O38: the expiry by the cycle in progress, and HOLD_ENDS by whether the hold is over. -/
theorem limitTimerExpiry : Obligations.LimitTimerExpiry := by
  refine ⟨fun s hs ht => ?_, fun s ht => ?_, fun s hs he hc hr => ?_, fun s h => ?_⟩
  · have hx : exec .limitTimerExpiry s = .next (settle (holdMayEnd { s with
        hold := { s.hold with limitTimer := none, endCause := some .expiry } })) :=
      congrArg Host.Outcome.next (if_pos ⟨hs, ht⟩)
    rw [hx]
    refine ⟨fun hc => ?_, fun hc => ?_⟩
    · rw [holdMayEnd_of_lasting (by exact .inr (.inr hc))]
    · rw [holdMayEnd_of_over (by exact hs) (by simp) (by exact hc)]
  · simp [exec, execLimitTimerExpiry, ht]
  · rw [exec_holdEnds hr, holdMayEnd_of_over hs he hc]
  · cases hr : s.link.resetTaken with
    | true => exact ⟨s.arb, by simp [exec, execHoldEnds, hr], rfl⟩
    | false => exact ⟨(settle s).arb, by rw [exec_holdEnds hr, holdMayEnd_of_lasting h, ← settle_eq], rfl⟩

end Sys2Proof.Machine


/-! ## The results of an inbound service: what each does to the service, its slot and the room waits -/

namespace Sys2Proof.Machine

set_option Elab.async false

/-! ### The end of a service (R129, R137, R140-R142) -/

/-- The back-off timers once a slot has been told to back off: a slot in service starts its own (R142). -/
def State.backedOff (s : State) (i : SlotId) : Vector (Option Nat) 16 :=
  if (s.slot i).state.inService = true then
    s.inb.backOff.set i (some (if s.params.checkInterval = 0 then 100 else s.params.checkInterval))
  else s.inb.backOff

/-- The INBOUND record of a service's failure, with channel and tag once the header has been read (R134, R136, R140). -/
def Service.failure (v : Service) (code : FaultCode) (addr : ModAddr) (headerRead : Bool) : FaultRecord :=
  { kind := .inbound, code := code, slot := some v.slot, epoch := some v.epoch, moduleAddr := some addr
    channel := if headerRead then some v.channel else none, tag := if headerRead then some v.tag else none }

section Ends

variable (v : Service) (s : State)

/-- A service that ends with a back-off and no record (R135, R142). -/
theorem backOff_endService :
    startBackOff v.slot (endService s) =
      { s with inb := { s.inb with service := none, backOff := s.backedOff v.slot } } := by
  rw [startBackOff_eq]
  rfl

/-- A service that ends with a back-off and a record (R134, R139). -/
theorem backOff_record_endService (code : FaultCode) (addr : ModAddr) (headerRead : Bool) :
    startBackOff v.slot (inboundRecord v code addr headerRead (endService s)) =
      { makeRecord (v.failure code addr headerRead) s with
        inb := { s.inb with service := none, backOff := s.backedOff v.slot } } := by
  rw [startBackOff_eq]
  rfl

/-- A failed post: its record, its partial body and reservation given up, and its slot's back-off (R140). -/
theorem failPost_eq (r : Result) (addr : ModAddr) :
    failPost v r addr s =
      { makeRecord (v.failure (.status r.inboundStatus) addr true) s with
        inb := { s.inb with
          service := none, reserved := 0, roomWait := s.inb.waitsAfterRelease, backOff := s.backedOff v.slot } } := by
  rw [failPost, startBackOff_eq, dropService_eq]
  rfl

end Ends

/-! ### The header (R134-R137) -/

/-- The service once its header has been read. -/
def Service.read (v : Service) (length : Nat) (channel tag : Byte) : Service :=
  { v with length := length, channel := channel, tag := tag }

theorem maxPost_eq (i : SlotId) (s : State) :
    maxPost i s = ((s.slot i).descriptor.map Descriptor.maxPost).getD 0 := by
  unfold maxPost
  cases (s.slot i).descriptor <;> rfl

/-- Room for a post while nothing is reserved (R129, R137). -/
theorem hasRoom_iff {b : Inbound} (h : b.reserved = 0) {n : Nat} (hn : 1 ≤ n) :
    b.hasRoom n = true ↔ b.posts.length < 32 ∧ (b.posts.map fun p => p.body.length).sum + n ≤ 8192 := by
  rw [Inbound.hasRoom, Inbound.freeRoom, Inbound.queuedBytes, h, Bool.and_eq_true, decide_eq_true_iff,
    decide_eq_true_iff]
  simp only [Config.posts, Config.stagingBytes]
  omega

/-- The judgement of a header by its length: empty, refused, or checked for room. -/
theorem judgeHeader_eq (v : Service) (l0 l1 channel tag : Byte) (s : State) :
    judgeHeader v [l0, l1, channel, tag] s =
      let n := (le16 l0 l1).toNat
      if n = 0 then startBackOff v.slot (endService s)
      else if 256 < n ∨ maxPost v.slot s < n then
        setService { v.read n channel tag with step := .discardTake }
          (inboundRecord (v.read n channel tag) .badLength v.postAddr true s)
      else if s.inb.hasRoom n then
        { s with inb := { s.inb with
          reserved := n, service := some { v.read n channel tag with step := .body, body := [] } } }
      else { s with inb := { s.inb with service := none, roomWait := s.inb.roomWait.set v.slot (some n) } } := rfl

/-! ### Each result by the service's step (R134-R141) -/

section Results

variable {v : Service} {s : State}

theorem serviceResult_absent (v : Service) (data : List Byte) (s : State) :
    serviceResult v .absent data s = dropService s := rfl

theorem serviceResult_header_ack (h : v.step = .header) (data : List Byte) :
    serviceResult v .ack data s = judgeHeader v data s := by
  simp [serviceResult, h]

theorem serviceResult_header_retry (h : v.step = .header) (data : List Byte) :
    serviceResult v .retry data s = startBackOff v.slot (endService s) := by
  simp [serviceResult, h]

theorem serviceResult_header_failed (h : v.step = .header) {r : Result} (hr : r ≠ .ack ∧ r ≠ .retry ∧ r ≠ .absent)
    (data : List Byte) :
    serviceResult v r data s =
      startBackOff v.slot (inboundRecord v (.status r.inboundStatus) v.postAddr false (endService s)) := by
  obtain ⟨ha, hy, hn⟩ := hr
  cases r with
  | ack => exact absurd rfl ha
  | retry => exact absurd rfl hy
  | absent => exact absurd rfl hn
  | _ => simp [serviceResult, h]

theorem serviceResult_body_ack (h : v.step = .body) (data : List Byte) :
    serviceResult v .ack data s = { s with inb := { s.inb with service := some { v with
      body := v.body ++ data
      step := if v.body.length + data.length = v.length then .take else .body } } } := by
  simp only [serviceResult, h, reduceCtorEq, if_false, if_true, setService, List.length_append]
  split <;> rfl

theorem serviceResult_take_ack (h : v.step = .take) (data : List Byte) :
    serviceResult v .ack data s = takePost v s := by
  simp [serviceResult, h]

theorem serviceResult_discard_ack (h : v.step = .discardTake) (data : List Byte) :
    serviceResult v .ack data s = endService s := by
  simp [serviceResult, h]

variable {r : Result} (hr : r ≠ .ack ∧ r ≠ .absent)

include hr

theorem serviceResult_body_failed (h : v.step = .body) (data : List Byte) :
    serviceResult v r data s = failPost v r v.bodyAddr s := by
  obtain ⟨ha, hn⟩ := hr
  simp [serviceResult, h, ha, hn]

theorem serviceResult_take_failed (h : v.step = .take) (data : List Byte) :
    serviceResult v r data s = failPost v r v.takeAddr s := by
  obtain ⟨ha, hn⟩ := hr
  simp [serviceResult, h, ha, hn]

theorem serviceResult_discard_failed (h : v.step = .discardTake) (data : List Byte) :
    serviceResult v r data s =
      startBackOff v.slot (inboundRecord v (.status r.inboundStatus) v.takeAddr true (endService s)) := by
  obtain ⟨ha, hn⟩ := hr
  simp [serviceResult, h, ha, hn]

end Results

/-- A result other than ACK and ABSENT gives its record the status of R140. -/
theorem inboundStatus_of_mem {r : Result} {st : Status}
    (h : (r, st) ∈ [(Result.retry, Status.retryExhausted), (.reject, .rejected), (.dataError, .parity),
      (.parity, .parity), (.noResponse, .noResponse)]) :
    r.inboundStatus = st ∧ r ≠ .ack ∧ r ≠ .absent := by
  simp only [List.mem_cons, Prod.mk.injEq, List.not_mem_nil, or_false] at h
  rcases h with ⟨rfl, rfl⟩ | ⟨rfl, rfl⟩ | ⟨rfl, rfl⟩ | ⟨rfl, rfl⟩ | ⟨rfl, rfl⟩ <;> decide

/-- Settles O42: the header by `judgeHeader_eq`, every other result by the service's step, and what ends a service by
`backOff_endService`, `backOff_record_endService`, `failPost_eq` and `dropService_eq`. -/
theorem inboundResults : Obligations.InboundResults := by
  refine ⟨fun s v r data hs => ?_, fun s v l0 l1 channel tag n most backOff hv hs hn hres hmost hback => ?_,
    fun s v data backOff roomWait hs hroom hback => ?_⟩
  · simp only [inboundResult, hs]
  · obtain rfl : backOff = s.backedOff v.slot := hback
    have hn : n = (le16 l0 l1).toNat := hn.trans (le16_toNat l0 l1).symm
    rw [← maxPost_eq] at hmost
    subst hn hmost
    rw [serviceResult_header_ack hv, judgeHeader_eq]
    dsimp only
    refine ⟨fun h => ?_, fun h => ?_, fun h1 h2 h3 => ⟨fun hl hb => ?_, fun h => ?_⟩, fun data => ?_,
      fun data r st hm => ?_⟩
    · rw [if_pos h, backOff_endService]
    · rw [if_neg (by omega), if_pos (by omega)]
      rfl
    · rw [if_neg (by omega), if_neg (by omega), if_pos ((hasRoom_iff hres h1).mpr ⟨hl, hb⟩)]
      rfl
    · rw [if_neg (by omega), if_neg (by omega), if_neg (by rw [hasRoom_iff hres h1]; omega)]
    · rw [serviceResult_header_retry hv, backOff_endService]
    · obtain ⟨rfl, ha, hn⟩ := inboundStatus_of_mem (List.mem_cons_of_mem _ hm)
      rw [serviceResult_header_failed hv ⟨ha, fun e => by simp [e] at hm, hn⟩, backOff_record_endService]
      rfl
  · obtain rfl : backOff = s.backedOff v.slot := hback
    obtain rfl : roomWait = s.inb.waitsAfterRelease := hroom
    refine ⟨fun hv h => ?_, fun hv h => ?_, fun hv => ?_, fun hv => ?_, fun r st hm => ⟨fun m h => ?_, fun hv => ?_⟩,
      ?_⟩
    · rw [serviceResult_body_ack hv, if_neg (by omega), ← hv]
    · rw [serviceResult_body_ack hv, if_pos h]
    · rw [serviceResult_take_ack hv]
      rfl
    · rw [serviceResult_discard_ack hv]
      rfl
    · obtain ⟨rfl, hr⟩ := inboundStatus_of_mem hm
      rcases h with ⟨hv, rfl⟩ | ⟨hv, rfl⟩
      · rw [serviceResult_body_failed hr hv, failPost_eq]
        rfl
      · rw [serviceResult_take_failed hr hv, failPost_eq]
        rfl
    · obtain ⟨rfl, hr⟩ := inboundStatus_of_mem hm
      rw [serviceResult_discard_failed hr hv, backOff_record_endService]
      rfl
    · rw [serviceResult_absent, dropService_eq]

end Sys2Proof.Machine


/-! ## POST_CREDIT, ATTENTION_MASK, the attention lines and the back-off timers -/

namespace Sys2Proof.Machine

set_option Elab.async false

/-! ### Sixteen flags as a word (R188) -/

/-- Flags gathered slot by slot into a word. -/
theorem getLsbD_gatherFlags (v : Vector Bool 16) (slots : List SlotId) (w : BitVec 16) (i : SlotId) :
    (slots.foldl (fun w k => if v[k] then w ||| (1#16 <<< k.val) else w) w).getLsbD i.val =
      (w.getLsbD i.val || (decide (i ∈ slots) && v[i])) := by
  induction slots generalizing w with
  | nil => simp
  | cons k slots ih =>
    rw [List.foldl_cons, ih]
    by_cases hk : i = k
    · subst hk
      cases hv : v[i] <;> simp
    · have hbit : (1#16 <<< k.val).getLsbD i.val = false := by
        have hne : i.val ≠ k.val := fun e => hk (Fin.ext e)
        simp
        omega
      cases v[k]
      · simp [hk]
      · rw [if_pos rfl, BitVec.getLsbD_or, hbit]
        simp [hk]

theorem wordOfFlags_getLsbD (v : Vector Bool 16) (i : SlotId) : (wordOfFlags v).getLsbD i.val = v[i] :=
  (getLsbD_gatherFlags v slotIds 0#16 i).trans (by simp [mem_slotIds])

theorem changeMask_getElem (change value : BitVec 16) (masked : Vector Bool 16) (i : SlotId) :
    (changeMask change value masked)[i] =
      if change.getLsbD i.val = true then value.getLsbD i.val else masked[i] := by
  simp [changeMask, chooseFlag]

/-! ### The owners (R144, R145) -/

theorem parseAttentionMask_eq_none {p : List Byte} (h : p.length ≠ 4) : parseAttentionMask p = none := by
  unfold parseAttentionMask
  split
  · exact absurd rfl h
  · rfl

theorem postCreditOwner_singleton (n : Byte) (r : ReqId) (s : State) :
    postCreditOwner [n] r s =
      if 64 < n.toNat then queueReply r .range [] s
      else queueReply r .ok [byteOf (min (s.inb.credits + n.toNat) 64)]
        { s with inb := { s.inb with credits := min (s.inb.credits + n.toNat) 64 } } := rfl

theorem attentionMaskOwner_of_fits {p : List Byte} {change value : BitVec 16}
    (h : parseAttentionMask p = some (change, value)) (r : ReqId) (s : State) :
    attentionMaskOwner p r s =
      settle (queueReply r .ok (bytes16 (wordOfFlags (changeMask change value s.inb.masked)))
        { s with inb := { s.inb with masked := changeMask change value s.inb.masked } }) := by
  simp only [attentionMaskOwner, h]

/-- The accepted request's own reply beside a change of the inbound engine. -/
theorem queueReply_accepted_inb (kind seq : Byte) (payload : List Byte) (s : State) (b : Inbound) (st : Status)
    (body : List Byte) :
    queueReply (reqId kind seq payload s) st body { s.accepted kind seq payload with inb := b } =
      { s.answered kind seq payload st body with inb := b } := by
  rw [queueReply_of_session rfl]
  rfl

/-- Settles O39: each request by its owner, the mask flag by flag. -/
theorem creditAndMask : Obligations.CreditAndMask := by
  refine fun seq payload s => ⟨fun ha => ⟨fun hl => ?_, fun n hp => ⟨fun hn => ?_, fun hn => ?_⟩⟩,
    fun ha => ⟨fun hl => ?_, fun change value hp => ?_⟩⟩
  · rw [exec_of_accepts rfl rfl ha]
    show Host.Outcome.next (postCreditOwner payload _ _) = _
    simp only [postCreditOwner, parseByte_eq_none hl, queueReply_accepted]
  · subst hp
    rw [exec_of_accepts rfl rfl ha]
    show Host.Outcome.next (postCreditOwner [n] _ _) = _
    rw [postCreditOwner_singleton, if_pos hn, queueReply_accepted]
  · subst hp
    rw [exec_of_accepts rfl rfl ha]
    show Host.Outcome.next (postCreditOwner [n] _ _) = _
    rw [postCreditOwner_singleton, if_neg (Nat.not_lt.mpr hn), queueReply_accepted_inb]
    rfl
  · rw [exec_of_accepts rfl rfl ha]
    show Host.Outcome.next (attentionMaskOwner payload _ _) = _
    simp only [attentionMaskOwner, parseAttentionMask_eq_none hl, queueReply_accepted]
  · refine ⟨changeMask change value s.inb.masked, wordOfFlags (changeMask change value s.inb.masked),
      changeMask_getElem change value _, wordOfFlags_getLsbD _, ?_⟩
    rw [exec_of_accepts rfl rfl ha]
    show Host.Outcome.next (attentionMaskOwner payload _ _) = _
    rw [attentionMaskOwner_of_fits hp, queueReply_accepted_inb]
    rfl

/-! ### The attention lines and the back-off timers (R130, R132, R142) -/

/-- The terms of R132, one by one. -/
theorem eligible_iff (s : State) (i : SlotId) : eligible s i = true ↔
    s.pins.attention[i] = true ∧ ((s.slot i).state = .active ∨ (s.slot i).state = .lagging) ∧
      (∃ d, (s.slot i).descriptor = some d ∧ d.attention = true) ∧ s.inb.masked[i] = false ∧
      s.inb.backOff[i] = none ∧ s.inb.roomWait[i] = none := by
  simp only [eligible, Bool.and_eq_true, SlotState.inService_iff, Option.any_eq_true, Bool.not_eq_true',
    Option.isNone_iff_eq_none, and_assoc]

/-- INBOUND waits for its grant with a service under way or a slot eligible (R130). -/
theorem settle_waiting_inbound {s : State} (hr : s.link.resetTaken = false) (hh : s.arb.holder ≠ some .inbound) :
    (settle s).arb.waiting.inbound = true ↔ s.inb.service ≠ none ∨ ∃ i, eligible s i = true := by
  show (wanted s).inbound = true ↔ _
  rw [wanted_of_no_reset hr]
  simp [hh, anyEligible_iff, Option.isSome_iff_ne_none]

/-- Settles O40: the line and the timer by their commands, the INBOUND request by the terms of R132. -/
theorem attentionAndBackOff : Obligations.AttentionAndBackOff := by
  refine ⟨fun s i level => rfl, fun s i ms h => ?_, fun s i h => ?_, eligible_iff, fun s => settle_waiting_inbound⟩
  · show execBackOffExpiry i s = _
    rw [execBackOffExpiry, if_pos (by rw [h]; rfl)]
  · show execBackOffExpiry i s = _
    rw [execBackOffExpiry, if_neg (by rw [h]; decide)]

end Sys2Proof.Machine


/-! ## The output arbiter -/

namespace Sys2Proof.Machine

set_option Elab.async false

/-! ### The indications in their order (R160) -/

/-- The lowest slot with its indication set comes first. -/
theorem firstPendingSlot_eq_some {s : State} {i : SlotId} (h : s.notices.slotPending[i] = true)
    (hf : ∀ j : SlotId, j < i → s.notices.slotPending[j] = false) : firstPendingSlot s = some i := by
  refine List.find?_eq_some_iff_getElem.mpr ⟨h, i.val, by simp [slotIds_eq], by simp [slotIds_eq], fun j hj => ?_⟩
  simpa [slotIds_eq] using hf ⟨j, by omega⟩ hj

theorem firstPendingSlot_eq_none {s : State} (h : ∀ i : SlotId, s.notices.slotPending[i] = false) :
    firstPendingSlot s = none :=
  List.find?_eq_none.mpr fun i _ => by simp [h i]

/-- The oldest record with its indication set comes first. -/
theorem firstPendingFault_eq_some {s : State} {front rest : List FaultEntry} {e : FaultEntry}
    (hs : s.faults.entries = front ++ e :: rest) (he : e.pending = true) (hf : ∀ d ∈ front, d.pending = false) :
    firstPendingFault s = some e := by
  rw [firstPendingFault, hs, List.find?_append, List.find?_eq_none.mpr fun d hd => by simp [hf d hd],
    List.find?_cons_of_pos he]
  rfl

theorem firstPendingFault_eq_none {s : State} (h : ∀ e ∈ s.faults.entries, e.pending = false) :
    firstPendingFault s = none :=
  List.find?_eq_none.mpr fun e he => by simp [h e he]

/-! ### The frame each source begins (R174) -/

section Order

variable {s : State}

/-- With the transmitter idle and the link OPEN the arbiter begins a frame. -/
theorem exec_outputFrameBegin (ht : s.link.transmitter = none) (hp : s.link.phase = .opened) :
    exec .outputFrameBegin s = .next (beginFrame s) :=
  congrArg Host.Outcome.next (if_pos ⟨by rw [ht]; rfl, hp⟩)

theorem exec_outputFrameBegin_of_busy (h : s.link.transmitter ≠ none ∨ s.link.phase ≠ .opened) :
    exec .outputFrameBegin s = .next s := by
  refine congrArg Host.Outcome.next (if_neg fun ⟨ht, hp⟩ => ?_)
  exact h.elim (fun h => h (Option.isNone_iff_eq_none.mp ht)) fun h => h hp

theorem beginFrame_reply {r : Reply} {rest : List Reply} (h : s.link.replies = r :: rest) :
    beginFrame s = transmit r.frame (.reply r) { s with link := { s.link with replies := rest } } := by
  simp only [beginFrame, h]

variable (hr : s.link.replies = [])

include hr

theorem beginFrame_overload {seq kind : Byte} (h : s.link.overload = some (seq, kind)) :
    beginFrame s = transmit { cls := .reply, kind := kind, seq := seq, payload := [0x16] } .overload
      { s with link := { s.link with overload := none } } := by
  simp only [beginFrame, hr, h]
  rfl

variable (ho : s.link.overload = none)

include ho

theorem beginFrame_linkUp {k : ResetKind} (h : s.link.linkUp = some k) :
    beginFrame s = beginNotice Kind.linkUp (linkUpPayload k s) (.linkUp k)
      { s with link := { s.link with linkUp := none } } := by
  simp only [beginFrame, hr, ho, h]

theorem beginFrame_pending (h : s.link.linkUp = none) : beginFrame s = beginPending s := by
  simp only [beginFrame, hr, ho, h]

end Order

section Pending

variable {s : State}

theorem beginPending_slot {i : SlotId} (h : firstPendingSlot s = some i) :
    beginPending s = beginNotice Kind.slotState (slotNoticePayload i s) (.slotState i)
      { s with notices := { s.notices with slotPending := s.notices.slotPending.set i false } } := by
  simp only [beginPending, h]

variable (hs : firstPendingSlot s = none)

include hs

theorem beginPending_holdEnd {limit : Nat} (h : s.notices.holdEnd = some limit) :
    beginPending s = beginNotice Kind.holdEnd (0x01 :: countBytes limit) (.holdEnd limit false)
      { s with notices := { s.notices with holdEnd := none } } := by
  simp only [beginPending, hs, h]
  rfl

variable (hh : s.notices.holdEnd = none)

include hh

theorem beginPending_fault {e : FaultEntry} (h : firstPendingFault s = some e) :
    beginPending s = beginNotice Kind.fault e.record.bytes (.fault e.record.number)
      { s with faults := s.faults.mark e.record.number false } := by
  simp only [beginPending, hs, hh, h]

variable (hf : firstPendingFault s = none)

include hf

theorem beginPending_post {p : Post} {rest : List Post} (h : s.inb.posts = p :: rest) (hc : 0 < s.inb.credits) :
    beginPending s = beginNotice Kind.post p.bytes .post
      { s with inb := { s.inb with credits := s.inb.credits - 1 } } := by
  simp only [beginPending, hs, hh, hf, h, hc, if_true]

theorem beginPending_nothing (h : s.inb.posts = [] ∨ s.inb.credits = 0) : beginPending s = s := by
  simp only [beginPending, hs, hh, hf]
  split
  · next p rest hp =>
    refine if_neg fun hc => ?_
    rcases h with h | h
    · rw [hp] at h
      cases h
    · exact Nat.lt_irrefl 0 (h ▸ hc)
  · rfl

end Pending

/-- LINK_UP's payload byte by byte (R175, R191). -/
theorem linkUpPayload_eq (k : ResetKind) (s : State) :
    linkUpPayload k s =
      [k.code, 0x16, 0x4B, 0x01, 16, 8, 0x00, 0x08, 16, 32, 0x00, 0x20, 32, 8, 8, 0x40, 0x10] ++
        bytes32 s.faults.next ++ bytes32 s.stamp := rfl

/-- Settles O49: the order of R174 one source after another. -/
theorem outputOrder : Obligations.OutputOrder := by
  intro s
  refine ⟨exec_outputFrameBegin_of_busy, fun ht hp => ?_⟩
  rw [exec_outputFrameBegin ht hp]
  refine ⟨fun r rest h => ?_, fun hr => ⟨fun seq kind h => ?_, fun ho => ⟨fun k h => ?_, fun hl => ?_⟩⟩⟩
  · rw [beginFrame_reply h]
    rfl
  · rw [beginFrame_overload hr h]
    rfl
  · rw [beginFrame_linkUp hr ho h, linkUpPayload_eq]
    cases k <;> rfl
  · rw [beginFrame_pending hr ho hl]
    refine ⟨fun i h hf => ?_, fun hs => ⟨fun limit h => ?_, fun hh => ⟨fun front e rest he hpe hfr => ?_, fun hf =>
      ⟨fun p rest h hc => ?_, fun h => ?_⟩⟩⟩⟩
    · rw [beginPending_slot (firstPendingSlot_eq_some h hf)]
      rfl
    · rw [beginPending_holdEnd (firstPendingSlot_eq_none hs) h]
      rfl
    · rw [beginPending_fault (firstPendingSlot_eq_none hs) hh (firstPendingFault_eq_some he hpe hfr)]
      rfl
    · rw [beginPending_post (firstPendingSlot_eq_none hs) hh (firstPendingFault_eq_none hf) h hc]
      rfl
    · rw [beginPending_nothing (firstPendingSlot_eq_none hs) hh (firstPendingFault_eq_none hf) h]

end Sys2Proof.Machine


/-! ## The laws of the fault list, the notices, the counts and the post queue: the blocks and the shared operations

The four laws are asked block by block (`Faults.Lawful`, `Notices.Lawful`, `State.CountLaw`, `State.PostLaw`).
`KeepsStores s t` says that each passes from `s` to `t`; it composes, and each operation has one lemma. -/

namespace Sys2Proof.Machine

set_option Elab.async false

/-! ### The fault list (R148, R151, R153, R158, R160) -/

/-- What the fault law asks of the fault list, with FAULT notices enabled or not. -/
structure Faults.Lawful (f : Faults) (enabled : Bool) : Prop where
  length  : f.entries.length ≤ Config.faultRecords
  numbers : ∀ k e, f.entries[k]? = some e → e.record.number + BitVec.ofNat 32 (f.entries.length - k) = f.next
  given   : f.entries ≠ [] → f.given = true
  masked  : enabled = false → ∀ e ∈ f.entries, e.pending = false

section FaultList

variable {f : Faults} {enabled : Bool}

/-- The youngest records of a list, the oldest removed, keep their numbers (R151, R153, R155). -/
theorem Faults.Lawful.suffix (h : f.Lawful enabled) {es : List FaultEntry} (hs : es <:+ f.entries) :
    Faults.Lawful { f with entries := es } enabled := by
  obtain ⟨old, he⟩ := hs
  refine ⟨?_, fun k e hk => ?_, fun hn => h.given ?_, fun hm e hin => h.masked hm e ?_⟩
  · have := h.length
    rw [← he, List.length_append] at this
    exact Nat.le_trans (Nat.le_add_left ..) this
  · have hk' : f.entries[old.length + k]? = some e := by
      rw [← he, List.getElem?_append_right (Nat.le_add_right ..), Nat.add_sub_cancel_left]
      exact hk
    rw [← h.numbers _ e hk', ← he, List.length_append, Nat.add_sub_add_left]
  · rw [← he]
    exact fun e => hn (List.append_eq_nil_iff.mp e).2
  · rw [← he]
    exact List.mem_append_right _ hin

/-- A record with the next number joins the tail of a list with room (R151). -/
theorem Faults.Lawful.append (h : f.Lawful enabled) (hl : f.entries.length < Config.faultRecords) {e : FaultEntry}
    (hn : e.record.number = f.next) (hp : e.pending = enabled) :
    Faults.Lawful { entries := f.entries ++ [e], next := f.next + 1, given := true } enabled := by
  refine ⟨by simpa using hl, fun k d hk => ?_, fun _ => rfl, fun hm d hin => ?_⟩
  · simp only [List.length_append, List.length_singleton]
    rcases Nat.lt_or_ge k f.entries.length with hlt | hge
    · rw [List.getElem?_append_left hlt] at hk
      rw [Nat.sub_add_comm (Nat.le_of_lt hlt), BitVec.ofNat_add, ← BitVec.add_assoc, h.numbers k d hk]
      rfl
    · obtain ⟨hlen, -⟩ := List.getElem?_eq_some_iff.mp hk
      simp only [List.length_append, List.length_singleton] at hlen
      obtain rfl : k = f.entries.length := by omega
      have hd : e = d := by simpa using hk
      rw [← hd, hn, Nat.add_sub_cancel_left]
      rfl
  · rcases List.mem_append.mp hin with hin | hin
    · exact h.masked hm d hin
    · rw [List.mem_singleton.mp hin, hp, hm]

/-- A change of the indications alone (R158, R160, R161). -/
theorem Faults.Lawful.repend (h : f.Lawful enabled) {g : FaultEntry → FaultEntry} {enabled' : Bool}
    (hg : ∀ e, (g e).record = e.record) (hp : enabled' = false → ∀ e ∈ f.entries, (g e).pending = false) :
    Faults.Lawful { f with entries := f.entries.map g } enabled' := by
  refine ⟨by simpa using h.length, fun k e hk => ?_, fun hn => h.given fun e => hn (by simp [e]), fun hm e hin => ?_⟩
  · obtain ⟨d, hd, rfl⟩ := Option.map_eq_some_iff.mp ((List.getElem?_map ..).symm.trans hk)
    rw [hg, List.length_map]
    exact h.numbers k d hd
  · obtain ⟨d, hd, rfl⟩ := List.mem_map.mp hin
    exact hp hm d hd

/-- An indication cleared, or set while FAULT notices are enabled (R158, R160). -/
theorem Faults.Lawful.mark (h : f.Lawful enabled) (number : Word) {pending : Bool}
    (hp : pending = true → enabled = true) : (f.mark number pending).Lawful enabled := by
  refine h.repend (fun e => by split <;> rfl) fun hm e he => ?_
  split
  · cases pending with
    | false => rfl
    | true => rw [hp rfl] at hm; cases hm
  · exact h.masked hm e he

end FaultList

theorem Faults.Lawful.makeRecord {s : State} (h : s.faults.Lawful s.notices.faultEnabled) (r : FaultRecord) :
    (makeRecord r s).faults.Lawful s.notices.faultEnabled := by
  have hl := h.length
  rcases Nat.lt_or_ge s.faults.entries.length Config.faultRecords with hlt | hge
  · simp only [Machine.makeRecord, Nat.not_le.mpr hlt, decide_false, if_false]
    exact h.append hlt rfl rfl
  · simp only [Machine.makeRecord, hge, decide_true, if_true]
    refine (h.suffix (List.tail_suffix _)).append ?_ rfl rfl
    simp only [List.length_tail, Config.faultRecords] at hl hge ⊢
    omega

/-! ### The notices (R157, R159, R161, R162) -/

/-- What the fault law asks of the notice unit: nothing pending of a kind that is disabled. -/
structure Notices.Lawful (n : Notices) : Prop where
  slots   : n.slotEnabled = false → ∀ i : SlotId, n.slotPending[i] = false
  holdEnd : n.holdEnabled = false → n.holdEnd = none

theorem State.faultLaw_iff (s : State) :
    s.FaultLaw ↔ s.faults.Lawful s.notices.faultEnabled ∧ s.notices.Lawful :=
  ⟨fun h => ⟨⟨h.length, h.numbers, h.given, h.masked⟩, ⟨h.slots, h.holdEnd⟩⟩,
    fun ⟨hf, hn⟩ => ⟨hf.length, hf.numbers, hf.given, hf.masked, hn.slots, hn.holdEnd⟩⟩

section NoticeUnit

variable {n : Notices}

/-- Indications are set while SLOT_STATE notices are enabled (R157, R162). -/
theorem Notices.Lawful.setSlots (h : n.Lawful) (v : Vector Bool 16) :
    Notices.Lawful { n with slotPending := if n.slotEnabled = true then v else n.slotPending } := by
  refine ⟨fun he i => ?_, h.holdEnd⟩
  have he : n.slotEnabled = false := he
  simpa [he] using h.slots he i

/-- A SLOT_STATE notice begun is pending no more (R160). -/
theorem Notices.Lawful.clearSlot (h : n.Lawful) (i : SlotId) :
    Notices.Lawful { n with slotPending := n.slotPending.set i false } := by
  refine ⟨fun he j => ?_, h.holdEnd⟩
  by_cases hij : i = j
  · subst hij
    simp
  · have hv : i.val ≠ j.val := fun e => hij (Fin.ext e)
    simpa [Vector.getElem_set_ne _ _ hv] using h.slots he j

/-- HOLD_END is cleared, or set while HOLD_END notices are enabled (R159, R160). -/
theorem Notices.Lawful.setHoldEnd (h : n.Lawful) {limit : Option Nat}
    (hl : n.holdEnabled = false → limit = none) : Notices.Lawful { n with holdEnd := limit } := ⟨h.slots, hl⟩

/-- Disabling a kind clears its indications (R161). -/
theorem Notices.remask_lawful (n : Notices) (change value : Byte) : (n.remask change value).Lawful := by
  refine ⟨fun he i => ?_, fun he => ?_⟩
  · have hs : (n.remask change value).slotPending = Vector.replicate 16 false := if_neg (ne_true_of_eq_false he)
    simp [hs]
  · exact if_neg (ne_true_of_eq_false he)

end NoticeUnit

/-! ### The parameters (R181) -/

theorem Params.get_set_of_ne (p : Params) (v : Nat) {i k : ParamId} (hk : k ≠ i) : (p.set i v).get k = p.get k := by
  cases i <;> cases k <;> first | rfl | exact absurd rfl hk

/-- A parameter set to a value of its range, and the others as they were. -/
theorem Params.get_set_inRange {p : Params} {i : ParamId} {v : Nat} (hv : i.inRange v = true)
    (hp : ∀ k : ParamId, k.inRange (p.get k) = true) (k : ParamId) : k.inRange ((p.set i v).get k) = true := by
  by_cases hk : k = i
  · subst hk
    cases k with
    | autoEnroll =>
      simp only [Params.set, Params.get, ParamId.inRange, decide_eq_true_eq]
      split <;> omega
    | _ => exact hv
  · rw [p.get_set_of_ne v hk]
    exact hp k

theorem Params.apply_inRange {ps : List (ParamId × Nat)} (h : ∀ x ∈ ps, x.1.inRange x.2 = true) {p : Params}
    (hp : ∀ k : ParamId, k.inRange (p.get k) = true) (k : ParamId) : k.inRange ((p.apply ps).get k) = true := by
  induction ps generalizing p with
  | nil => exact hp k
  | cons x ps ih =>
    exact ih (fun y hy => h y (List.mem_cons_of_mem _ hy)) (Params.get_set_inRange (h x List.mem_cons_self) hp)

/-! ### The post queue and the staging store (R128, R129) -/

theorem Service.fits_congr {b c : Inbound} (hp : c.posts = b.posts) (hr : c.reserved = b.reserved) (v : Service) :
    v.fits c ↔ v.fits b := by
  unfold Service.fits
  rw [hp, hr]

/-- A store that stands as it was, beside no other transaction of the inbound engine than before. -/
theorem State.PostLaw.of_store {s t : State} (h : s.PostLaw) (hp : t.inb.posts = s.inb.posts)
    (hr : t.inb.reserved = s.inb.reserved) (hv : t.inb.service = s.inb.service)
    (ht : ∀ x, t.ctrl.tx = some x → x.requester = .inbound → s.ctrl.tx = some x) : t.PostLaw := by
  refine ⟨?_, ?_, ?_, fun v hs => ?_, fun x hx hi => ?_⟩
  · rw [hp]
    exact h.posts
  · rw [Inbound.queuedBytes, hp, hr]
    exact h.staging
  · rw [hv, hr]
    exact h.idle
  · rw [Service.fits_congr hp hr]
    exact h.service v (hv ▸ hs)
  · rw [hv]
    exact h.tx x (ht x hx hi) hi

/-- A store with no service and nothing reserved. -/
theorem State.PostLaw.of_idle {t : State} (hp : t.inb.posts.length ≤ Config.posts)
    (hb : t.inb.queuedBytes ≤ Config.stagingBytes) (hr : t.inb.reserved = 0) (hv : t.inb.service = none)
    (ht : ∀ x, t.ctrl.tx = some x → x.requester ≠ .inbound) : t.PostLaw := by
  refine ⟨hp, ?_, fun _ => hr, fun v hs => ?_, fun x hx hi => absurd hi (ht x hx)⟩
  · rw [hr]
    exact hb
  · rw [hv] at hs
    cases hs

/-! ### What keeps the laws -/

/-- The parameters, the credits, the post queue, the staging store and the transaction in progress stand as they were. -/
def SameInbound (s t : State) : Prop :=
  t.params = s.params ∧ t.inb.credits = s.inb.credits ∧ t.inb.posts = s.inb.posts ∧
    t.inb.reserved = s.inb.reserved ∧ t.inb.service = s.inb.service ∧ t.ctrl.tx = s.ctrl.tx

/-- The fault list and the notices stand as they were too. -/
def SameStores (s t : State) : Prop := t.faults = s.faults ∧ t.notices = s.notices ∧ SameInbound s t

@[simp] theorem sameInbound_iff (s t : State) :
    SameInbound s t ↔ t.params = s.params ∧ t.inb.credits = s.inb.credits ∧ t.inb.posts = s.inb.posts ∧
      t.inb.reserved = s.inb.reserved ∧ t.inb.service = s.inb.service ∧ t.ctrl.tx = s.ctrl.tx := Iff.rfl

@[simp] theorem sameStores_iff (s t : State) :
    SameStores s t ↔ t.faults = s.faults ∧ t.notices = s.notices ∧ SameInbound s t := Iff.rfl

/-- The laws of the fault list, the notices, the counts and the post queue pass from one state to another. -/
structure KeepsStores (s t : State) : Prop where
  faults  : s.faults.Lawful s.notices.faultEnabled → t.faults.Lawful t.notices.faultEnabled
  notices : s.notices.Lawful → t.notices.Lawful
  counts  : s.CountLaw → t.CountLaw
  posts   : s.PostLaw → t.PostLaw

theorem State.CountLaw.of_same {s t : State} (h : s.CountLaw) (hc : t.inb.credits = s.inb.credits)
    (hp : t.params = s.params) : t.CountLaw :=
  ⟨hc ▸ h.credits, hp ▸ h.params⟩

namespace KeepsStores

theorem refl (s : State) : KeepsStores s s := ⟨id, id, id, id⟩

theorem trans {s t u : State} (h : KeepsStores s t) (k : KeepsStores t u) : KeepsStores s u :=
  ⟨k.faults ∘ h.faults, k.notices ∘ h.notices, k.counts ∘ h.counts, k.posts ∘ h.posts⟩

/-- A change of the fault list and the notices beside the rest. -/
theorem of_notices {s t : State} (h : SameInbound s t)
    (hf : s.faults.Lawful s.notices.faultEnabled → t.faults.Lawful t.notices.faultEnabled)
    (hn : s.notices.Lawful → t.notices.Lawful) : KeepsStores s t := by
  obtain ⟨hp, hc, hpo, hr, hv, ht⟩ := h
  exact ⟨hf, hn, fun h => h.of_same hc hp, fun h => h.of_store hpo hr hv fun x hx _ => ht ▸ hx⟩

theorem of_same {s t : State} (h : SameStores s t) : KeepsStores s t := by
  obtain ⟨hf, hn, hi⟩ := h
  exact .of_notices hi (by rw [hf, hn]; exact id) (by rw [hn]; exact id)

theorem same {s t u : State} (h : KeepsStores s t) (k : SameStores t u) : KeepsStores s u := h.trans (.of_same k)

/-- Another transaction in progress, of another requester than INBOUND, or none. -/
theorem of_tx {s : State} {tx : Option Tx} (ht : ∀ x, tx = some x → x.requester ≠ .inbound) :
    KeepsStores s { s with ctrl := { s.ctrl with tx := tx } } :=
  ⟨id, id, fun h => h.of_same rfl rfl, fun h => h.of_store rfl rfl rfl fun x hx hi => absurd hi (ht x hx)⟩

end KeepsStores

/-! ### Replies, records and notices (R109, R151, R157, R159, R162) -/

section Notes

variable (s : State)

theorem queueReply_keepsStores (r : ReqId) (st : Status) (body : List Byte) :
    KeepsStores s (queueReply r st body s) := .of_same (by simp)

theorem queueOwed_keepsStores (r : Option ReqId) (st : Status) (body : List Byte) :
    KeepsStores s (queueOwed r st body s) := .of_same (by simp)

theorem makeRecord_keepsStores (r : FaultRecord) : KeepsStores s (makeRecord r s) :=
  .of_notices (by simp) (fun h => h.makeRecord r) id

theorem changeState_keepsStores (i : SlotId) (st : SlotState) (cause : LastCause) :
    KeepsStores s (changeState i st cause s) := by
  refine .of_notices (by simp) (by simp) fun h => ?_
  rw [changeState_eq]
  exact h.setSlots _

theorem noteAllSlots_keepsStores : KeepsStores s (noteAllSlots s) := by
  refine .of_notices (by simp) (by simp) fun h => ?_
  rw [noteAllSlots_eq]
  exact h.setSlots _

theorem noteHoldEnd_keepsStores (limit : Nat) : KeepsStores s (noteHoldEnd limit s) := by
  refine .of_notices (by simp) (by simp) fun h => ?_
  unfold noteHoldEnd
  split
  · next he => exact h.setHoldEnd fun hd => by rw [he] at hd; cases hd
  · exact h

end Notes

/-! ### The supervisor (R87-R105) -/

section Supervise

variable (i : SlotId) (s : State)

theorem modifySlot_keepsStores (f : Slot → Slot) : KeepsStores s (s.modifySlot i f) := .of_same (by simp)

theorem dropItems_keepsStores : KeepsStores s (dropItems i s) := .of_same (by simp)

theorem enrollDown_keepsStores : KeepsStores s (enrollDown i s) := .of_same (by simp)

theorem enterFaulted_keepsStores (cause : SlotCause) : KeepsStores s (enterFaulted i cause s) :=
  ((((modifySlot_keepsStores ..).trans (dropItems_keepsStores ..)).trans (makeRecord_keepsStores ..)).trans
    (changeState_keepsStores ..)).trans (enrollDown_keepsStores i _)

theorem removeSlot_keepsStores : KeepsStores s (removeSlot i s) :=
  (((modifySlot_keepsStores ..).trans (dropItems_keepsStores ..)).trans (changeState_keepsStores ..)).trans
    (enrollDown_keepsStores i _)

theorem enterSettling_keepsStores (cause : LastCause) : KeepsStores s (enterSettling i cause s) :=
  .trans (.of_same (by simp)) (changeState_keepsStores ..)

theorem samplePresence_keepsStores (cause : LastCause) : KeepsStores s (samplePresence i cause s) := by
  unfold samplePresence
  split
  · exact enterSettling_keepsStores ..
  · exact .trans (.of_same (by simp)) (changeState_keepsStores ..)

theorem beginAttempt_keepsStores : KeepsStores s (beginAttempt i s) := .of_same (by simp)

theorem beginEnrollment_keepsStores (cause : LastCause) : KeepsStores s (beginEnrollment i cause s) :=
  ((modifySlot_keepsStores ..).trans (changeState_keepsStores ..)).trans (beginAttempt_keepsStores i _)

theorem failAttempt_keepsStores (cause : SlotCause) : KeepsStores s (failAttempt i cause s) := by
  unfold failAttempt
  dsimp only
  split
  · exact .of_same (by simp)
  · exact .trans (.of_same (by simp)) (enterFaulted_keepsStores ..)

theorem enrollSucceeds_keepsStores (d : Descriptor) (word : Word) : KeepsStores s (enrollSucceeds i d word s) := by
  unfold enrollSucceeds
  exact (((modifySlot_keepsStores ..).trans (changeState_keepsStores ..)).trans (queueOwed_keepsStores ..)).trans
    (modifySlot_keepsStores ..)

theorem failCheck_keepsStores : KeepsStores s (failCheck i s) := by
  unfold failCheck
  split
  · dsimp only
    split
    · exact .trans (.of_same (by simp)) (changeState_keepsStores ..)
    · exact .trans (.of_same (by simp)) (enterFaulted_keepsStores ..)
  · dsimp only
    split
    · exact .trans (.of_same (by simp)) (enterFaulted_keepsStores ..)
    · exact .of_same (by simp)
  · exact .refl s

theorem passCheck_keepsStores (word : Word) : KeepsStores s (passCheck i word s) := by
  unfold passCheck
  dsimp only
  split
  · exact .trans (.of_same (by simp)) (changeState_keepsStores ..)
  · exact .of_same (by simp)

theorem skipCheck_keepsStores : KeepsStores s (skipCheck i s) := by
  unfold skipCheck
  split
  · exact .of_same (by simp)
  · exact .trans (.of_same (by simp)) (failCheck_keepsStores ..)

theorem skipItems_keepsStores : KeepsStores s (skipItems s) := by
  have hall : ∀ (ws : List WorkItem) (u : State), KeepsStores u (ws.foldl (fun s w => skipCheck w.slot s) u) := by
    intro ws
    induction ws with
    | nil => exact .refl
    | cons w ws ih => exact fun u => (skipCheck_keepsStores ..).trans (ih _)
  have hs : KeepsStores s { s with sup := { s.sup with work := s.sup.work.filter fun w => w.read ≠ .check } } :=
    .of_same ⟨rfl, rfl, rfl, rfl, rfl, rfl, rfl, rfl⟩
  exact hs.trans (hall _ _)

theorem checkDue_keepsStores : KeepsStores s (checkDue i s) := by
  unfold checkDue
  split
  · exact skipCheck_keepsStores ..
  · split
    · exact .refl s
    · exact .of_same (by simp)

theorem judgeCheck_keepsStores (r : Result) (data : List Byte) : KeepsStores s (judgeCheck i r data s) := by
  have hfail : KeepsStores s (failCheck i (s.modifySlot i fun x => { x with skip := 0 })) :=
    .trans (.of_same (by simp)) (failCheck_keepsStores ..)
  unfold judgeCheck
  split
  · split
    · exact .refl s
    · split
      · exact passCheck_keepsStores ..
      · exact hfail
    · exact hfail
  · exact .refl s

theorem superviseTakes_keepsStores (r : Result) : KeepsStores s (superviseTakes i r s) := by
  unfold superviseTakes
  split
  · split
    · exact removeSlot_keepsStores ..
    · exact .refl s
  · dsimp only
    split
    · exact .trans (.of_same (by simp)) (enterFaulted_keepsStores ..)
    · exact .of_same (by simp)
  · exact .of_same (by simp)

theorem judgeDescriptor_keepsStores (data : List Byte) : KeepsStores s (judgeDescriptor i data s) := by
  unfold judgeDescriptor
  split
  · exact failAttempt_keepsStores ..
  · exact .of_same (by simp)

theorem superviseResult_keepsStores (r : Result) (data : List Byte) :
    KeepsStores s (superviseResult i r data s) := by
  unfold superviseResult
  split
  · exact .refl s
  · split
    · split
      · exact judgeDescriptor_keepsStores ..
      · exact failAttempt_keepsStores ..
    · split
      · exact enrollSucceeds_keepsStores ..
      · exact failAttempt_keepsStores ..
    · exact judgeCheck_keepsStores ..

theorem presenceLost_keepsStores : KeepsStores s (presenceLost i s) := by
  unfold presenceLost
  split
  · exact .trans (.of_same (by simp)) (changeState_keepsStores ..)
  · split
    · exact removeSlot_keepsStores ..
    · exact .refl s

end Supervise

end Sys2Proof.Machine


/-! ## The laws of the fault list, the notices, the counts and the post queue: the engines and the backplane -/

namespace Sys2Proof.Machine

set_option Elab.async false

/-! ### The transfer engine (R48, R50, R57-R59) -/

section Transfers

variable (s : State)

theorem answerTransfer_keepsStores (t : Transfer) (o : XferEnd) (info : SwapInfo) :
    KeepsStores s (answerTransfer t o info s) := by
  refine .of_notices (by simp) (fun h => ?_) (by simp)
  rw [answerTransfer_eq]
  dsimp only
  split
  · exact h.makeRecord _
  · exact h

theorem leaveHead_keepsStores (t : Transfer) (o : XferEnd) (info : SwapInfo) :
    KeepsStores s (leaveHead t o info s) := by
  have ha := answerTransfer_keepsStores s t o info
  unfold leaveHead
  exact ha.same (by simp)

theorem retryHead_keepsStores (t : Transfer) (place : SlotId × ModAddr) : KeepsStores s (retryHead t place s) := by
  unfold retryHead
  split
  · exact leaveHead_keepsStores ..
  · exact .of_same (by simp)

theorem segmentResult_keepsStores (t : Transfer) (place : SlotId × ModAddr) (r : Result) (data : List Byte) :
    KeepsStores s (segmentResult t place r data s) := by
  unfold segmentResult
  split
  · exact leaveHead_keepsStores ..
  · cases r with
    | ack =>
      dsimp only
      split
      · exact leaveHead_keepsStores ..
      · exact .of_same (by simp)
    | retry => exact retryHead_keepsStores ..
    | reject | dataError | parity | noResponse | absent => exact leaveHead_keepsStores ..

/-- A change of the transfer engine alone. -/
theorem withXfer_keepsStores (x : Xfer) : KeepsStores s { s with xfer := x } :=
  .of_same ⟨rfl, rfl, rfl, rfl, rfl, rfl, rfl, rfl⟩

theorem returnGrant_keepsStores : KeepsStores s (returnGrant s) := .of_same (by simp)

theorem endPair_keepsStores (p : Pair) (o : XferEnd) (lockUnknown : Bool) :
    KeepsStores s (endPair p o lockUnknown s) := by
  have hp := withXfer_keepsStores s { s.xfer with pair := none }
  unfold endPair
  dsimp only
  split
  · exact hp
  · split
    · exact (hp.trans (returnGrant_keepsStores _)).trans (leaveHead_keepsStores ..)
    · exact hp.trans (returnGrant_keepsStores _)

theorem secondResult_keepsStores (p : Pair) (r : Result) : KeepsStores s (secondResult p r s) := by
  unfold secondResult
  split
  · exact endPair_keepsStores ..
  · split
    · exact endPair_keepsStores ..
    · dsimp only
      (repeat' split) <;> exact .of_same (by simp)
  · exact endPair_keepsStores ..
  · exact endPair_keepsStores ..

/-- A transaction of another requester than INBOUND is put on the backplane. -/
theorem putTx_keepsStores {t : Tx} (ht : t.requester ≠ .inbound) : KeepsStores s (putTx t s) := by
  rw [putTx_eq]
  refine .of_tx fun x hx => ?_
  cases hx
  exact ht

/-- The controller is IDLE (R71). -/
theorem clearTx_keepsStores (t : Tx) (r : Result) : KeepsStores s (clearTx t r s) :=
  (KeepsStores.of_tx (tx := none) (by simp)).same (by simp [clearTx])

theorem sendSecond_keepsStores (p : Pair) : KeepsStores s (sendSecond p s) := by
  have hm : KeepsStores s { markPage (p.writtenEntry s) false true s with
      xfer := { (markPage (p.writtenEntry s) false true s).xfer with pair := some { p with stage := .second } } } :=
    .of_same (by simp)
  unfold sendSecond
  dsimp only
  split
  · exact hm.trans (putTx_keepsStores _ (by simp [Pair.secondHalf]))
  · have hc := hm.trans (clearTx_keepsStores _ ({ p with stage := .second } : Pair).secondHalf .absent)
    refine (hc.trans ?_).trans (secondResult_keepsStores ..)
    split
    · exact .refl _
    · exact superviseTakes_keepsStores ..

theorem lockReadResult_keepsStores (p : Pair) (r : Result) (data : List Byte) :
    KeepsStores s (lockReadResult p r data s) := by
  have hp := withXfer_keepsStores s { s.xfer with pair := none }
  unfold lockReadResult
  split
  · exact sendSecond_keepsStores ..
  · dsimp only
    split
    · exact hp
    · split
      · split
        · exact (hp.trans (returnGrant_keepsStores _)).trans (retryHead_keepsStores ..)
        · exact (hp.trans (returnGrant_keepsStores _)).trans (leaveHead_keepsStores ..)
      · exact hp.trans (returnGrant_keepsStores _)
  · exact endPair_keepsStores ..

theorem pairResult_keepsStores (p : Pair) (r : Result) (data : List Byte) :
    KeepsStores s (pairResult p r data s) := by
  unfold pairResult
  split
  · exact lockReadResult_keepsStores ..
  · exact secondResult_keepsStores ..
  · exact secondResult_keepsStores ..

theorem transferResult_keepsStores (t : Tx) (r : Result) (data : List Byte) :
    KeepsStores s (transferResult t r data s) := by
  unfold transferResult
  split
  · exact pairResult_keepsStores ..
  · split
    · exact .refl s
    · split
      · exact (returnGrant_keepsStores s).trans (segmentResult_keepsStores ..)
      · exact returnGrant_keepsStores s

end Transfers

/-! ### The hold unit (R117, R118, R121, R122) -/

section HoldUnit

/-- A change of the hold unit alone. -/
theorem withHold_keepsStores (s : State) (h : Hold) : KeepsStores s { s with hold := h } :=
  .of_same ⟨rfl, rfl, rfl, rfl, rfl, rfl, rfl, rfl⟩

theorem endHold_keepsStores (s : State) : KeepsStores s (endHold s) := by
  have hq : KeepsStores s
      (queueOwed s.hold.releaseReply .ok [] (queueReplies (s.hold.cycles.map Cycle.req) .notHeld [] s)) :=
    .of_same (by simp)
  have hn : ∀ u : State, KeepsStores u
      (if u.hold.endCause = some .expiry then noteHoldEnd (u.hold.limit.getD 0) u else u) := by
    intro u
    split
    · exact noteHoldEnd_keepsStores ..
    · exact .refl u
  unfold endHold
  simp only [queueReplies_frame]
  exact (hq.trans (hn _)).same ⟨rfl, rfl, rfl, rfl, rfl, rfl, rfl, rfl⟩

theorem holdMayEnd_keepsStores (s : State) : KeepsStores s (holdMayEnd s) := by
  unfold holdMayEnd
  split
  · exact endHold_keepsStores s
  · exact .refl s

theorem startCycles_keepsStores (cs : List Cycle) (s : State) : KeepsStores s (startCycles cs s) := by
  induction cs generalizing s with
  | nil => exact withHold_keepsStores ..
  | cons c cs ih =>
    unfold startCycles
    split
    · exact (withHold_keepsStores ..).trans (putTx_keepsStores _ (by simp [Cycle.tx]))
    · exact ((clearTx_keepsStores s c.tx .absent).trans (queueReply_keepsStores ..)).trans (ih _)

theorem cycleResult_keepsStores (r : Result) (data : List Byte) (s : State) :
    KeepsStores s (cycleResult r data s) := by
  unfold cycleResult
  split
  · exact .refl s
  · next c _ =>
    have ha : KeepsStores s (answerCycle c r data { s with hold := { s.hold with cycle := none } }) :=
      (withHold_keepsStores ..).trans (queueReply_keepsStores ..)
    dsimp only
    split
    · exact ha.trans (holdMayEnd_keepsStores _)
    · exact ha.trans (startCycles_keepsStores ..)

end HoldUnit

/-! ### The inbound engine (R129, R134-R141) -/

section Service

variable {s : State} {v : Service}

/-- The data of a body read stay within the body (R138). -/
def Service.Admits (v : Service) (data : List Byte) : Prop :=
  v.step = .body → v.body.length + data.length ≤ v.length

/-- The record a service's result makes, if it makes one, is the only change of the fault list. -/
theorem serviceResult_faults (v : Service) (r : Result) (data : List Byte) (s : State) :
    (serviceResult v r data s).faults = s.faults ∨
      ∃ x, (serviceResult v r data s).faults = (makeRecord x s).faults := by
  have hfail : ∀ r addr, (failPost v r addr s).faults =
      (makeRecord (v.failure (.status r.inboundStatus) addr true) s).faults := fun r addr => by rw [failPost_eq]
  have hrec : ∀ code addr read, (startBackOff v.slot (inboundRecord v code addr read (endService s))).faults =
      (makeRecord (v.failure code addr read) s).faults := fun code addr read => by rw [backOff_record_endService]
  unfold serviceResult
  split
  · exact .inl (by simp)
  · split
    · split
      · unfold judgeHeader
        dsimp only
        split
        · exact .inl (by simp)
        · split
          · exact .inr ⟨_, rfl⟩
          · split <;> exact .inl rfl
      · exact .inl (by simp)
      · exact .inr ⟨_, hrec ..⟩
    · split
      · exact .inl (by simp)
      · exact .inr ⟨_, hfail ..⟩
    · split
      · exact .inl (by simp)
      · exact .inr ⟨_, hfail ..⟩
    · split
      · exact .inl (by simp)
      · exact .inr ⟨_, hrec ..⟩

/-- A service that ends with nothing reserved leaves a lawful store. -/
theorem State.PostLaw.ended {t : State} (h : s.PostLaw) (ht : t.ctrl.tx = none) (hp : t.inb.posts = s.inb.posts)
    (hr : t.inb.reserved = 0) (hv : t.inb.service = none) : t.PostLaw := by
  refine .of_idle (hp ▸ h.posts) ?_ hr hv (by simp [ht])
  rw [Inbound.queuedBytes, hp]
  exact Nat.le_trans (Nat.le_add_right ..) h.staging

/-- A service that goes on as its step asks, the posts as they were. -/
theorem State.PostLaw.goesOn {t : State} {w : Service} (h : s.PostLaw) (ht : t.ctrl.tx = none)
    (hp : t.inb.posts = s.inb.posts) (hr : s.inb.queuedBytes + t.inb.reserved ≤ Config.stagingBytes)
    (hv : t.inb.service = some w) (hw : w.fits t.inb) : t.PostLaw := by
  refine ⟨hp ▸ h.posts, ?_, fun hn => ?_, fun x hx => ?_, fun x hx => ?_⟩
  · rwa [Inbound.queuedBytes, hp]
  · rw [hv] at hn
    cases hn
  · rw [hv] at hx
    cases hx
    exact hw
  · rw [ht] at hx
    cases hx

theorem State.PostLaw.after_judgeHeader (h : s.PostLaw) (ht : s.ctrl.tx = none) (hr : s.inb.reserved = 0)
    (data : List Byte) : (judgeHeader v data s).PostLaw := by
  unfold judgeHeader
  dsimp only
  split
  · exact h.ended (by simpa using ht) (by simp) (by simpa using hr) (by simp [endService])
  · split
    · exact h.goesOn ht rfl h.staging rfl hr
    · split
      · next hl _ hroom =>
        obtain ⟨hposts, hbytes⟩ := (hasRoom_iff hr (Nat.one_le_iff_ne_zero.mpr hl)).mp hroom
        exact h.goesOn ht rfl hbytes rfl ⟨hposts, rfl, Nat.pos_of_ne_zero hl⟩
      · exact h.ended ht rfl hr rfl

theorem State.PostLaw.after_takePost (h : s.PostLaw) (ht : s.ctrl.tx = none) (hp : s.inb.posts.length < Config.posts)
    (hr : s.inb.reserved = v.body.length) : (takePost v s).PostLaw := by
  refine .of_idle ?_ ?_ rfl rfl (fun x hx => ?_)
  · simpa [takePost] using hp
  · have hs := h.staging
    rw [hr, Inbound.queuedBytes] at hs
    simpa [takePost, Inbound.queuedBytes] using hs
  · have hx : s.ctrl.tx = some x := hx
    rw [ht] at hx
    cases hx

/-- What a service in progress has reserved and read fits its next step, whatever its transaction's result. -/
theorem State.PostLaw.after_serviceResult (h : s.PostLaw) (ht : s.ctrl.tx = none) (hv : s.inb.service = some v)
    (r : Result) {data : List Byte} (hd : v.Admits data) : (serviceResult v r data s).PostLaw := by
  have hfit := h.service v hv
  have hdrop : (dropService s).PostLaw :=
    h.ended (by simpa using ht) (by simp) (by rw [dropService_eq]) (by rw [dropService_eq])
  have hfail : ∀ addr, (failPost v r addr s).PostLaw := fun addr =>
    h.ended (by simpa using ht) (by simp) (by rw [failPost_eq]) (by rw [failPost_eq])
  cases hs : v.step with
  | header =>
    have hr : s.inb.reserved = 0 := by simpa only [Service.fits, hs] using hfit
    rcases eq_or_ne r .absent with rfl | hn
    · exact hdrop
    rcases eq_or_ne r .ack with rfl | ha
    · rw [serviceResult_header_ack hs]
      exact h.after_judgeHeader ht hr data
    rcases eq_or_ne r .retry with rfl | hy
    · rw [serviceResult_header_retry hs]
      exact h.ended (by simpa using ht) (by simp) (by simpa using hr) (by simp [endService])
    · rw [serviceResult_header_failed hs ⟨ha, hy, hn⟩]
      exact h.ended (by simpa using ht) (by simp) (by simpa using hr) (by simp [endService])
  | body =>
    obtain ⟨hp, hr, hl⟩ : s.inb.posts.length < Config.posts ∧ s.inb.reserved = v.length ∧ v.body.length < v.length := by
      simpa only [Service.fits, hs] using hfit
    rcases eq_or_ne r .absent with rfl | hn
    · exact hdrop
    rcases eq_or_ne r .ack with rfl | ha
    · have hle := hd hs
      rw [serviceResult_body_ack hs]
      refine h.goesOn ht rfl h.staging rfl ?_
      by_cases he : v.body.length + data.length = v.length
      · simp only [Service.fits, he, if_true, List.length_append]
        exact ⟨hp, hr, trivial⟩
      · simp only [Service.fits, he, if_false, List.length_append]
        exact ⟨hp, hr, by omega⟩
    · rw [serviceResult_body_failed ⟨ha, hn⟩ hs]
      exact hfail _
  | take =>
    obtain ⟨hp, hr, hl⟩ : s.inb.posts.length < Config.posts ∧ s.inb.reserved = v.length ∧ v.body.length = v.length := by
      simpa only [Service.fits, hs] using hfit
    rcases eq_or_ne r .absent with rfl | hn
    · exact hdrop
    rcases eq_or_ne r .ack with rfl | ha
    · rw [serviceResult_take_ack hs]
      exact h.after_takePost ht hp (hr.trans hl.symm)
    · rw [serviceResult_take_failed ⟨ha, hn⟩ hs]
      exact hfail _
  | discardTake =>
    have hr : s.inb.reserved = 0 := by simpa only [Service.fits, hs] using hfit
    rcases eq_or_ne r .absent with rfl | hn
    · exact hdrop
    rcases eq_or_ne r .ack with rfl | ha
    · rw [serviceResult_discard_ack hs]
      exact h.ended ht rfl hr rfl
    · rw [serviceResult_discard_failed ⟨ha, hn⟩ hs]
      exact h.ended (by simpa using ht) (by simp) (by simpa using hr) (by simp [endService])

theorem KeepsStores.inboundResult {s₀ : State} (h : KeepsStores s₀ s) (ht : s.ctrl.tx = none) (r : Result)
    {data : List Byte} (hd : s₀.PostLaw → ∀ v, s.inb.service = some v → v.Admits data) :
    KeepsStores s₀ (inboundResult r data s) := by
  unfold Machine.inboundResult
  split
  · next v hv =>
    have hn : (serviceResult v r data s).notices = s.notices := by simp
    refine ⟨fun hf => ?_, fun hl => ?_, fun hc => (h.counts hc).of_same (by simp) (by simp),
      fun hp => (h.posts hp).after_serviceResult ht hv r (hd hp v hv)⟩
    · rw [hn]
      rcases serviceResult_faults v r data s with he | ⟨x, he⟩
      · rw [he]
        exact h.faults hf
      · rw [he]
        exact (h.faults hf).makeRecord x
    · rw [hn]
      exact h.notices hl
  · exact h

end Service

end Sys2Proof.Machine


/-! ## The laws of the fault list, the notices, the counts and the post queue: the backplane -/

namespace Sys2Proof.Machine

set_option Elab.async false

/-! ### The end of a transaction (R71, R81) -/

section Finish

variable {s₀ s : State}

theorem orphanResult_keepsStores (t : Tx) (r : Result) (data : List Byte) (s : State) :
    KeepsStores s (orphanResult t r data s) := by
  unfold orphanResult
  split
  · exact transferResult_keepsStores ..
  · exact .of_same ⟨rfl, rfl, rfl, rfl, rfl, rfl, rfl, rfl⟩
  · exact .refl s
  · exact .refl s

theorem KeepsStores.deliver (h : KeepsStores s₀ s) (ht : s.ctrl.tx = none) (t : Tx) (r : Result) {data : List Byte}
    (hd : s₀.PostLaw → t.requester = .inbound → ∀ v, s.inb.service = some v → v.Admits data) :
    KeepsStores s₀ (deliver t r data s) := by
  have hs := h.trans (superviseTakes_keepsStores t.slot s r)
  unfold Machine.deliver
  split
  · exact h.trans (cycleResult_keepsStores ..)
  · exact (hs.trans (superviseResult_keepsStores ..)).trans (returnGrant_keepsStores _)
  · exact hs.trans (transferResult_keepsStores ..)
  · next hi =>
    exact (hs.inboundResult (by simpa using ht) r fun hp v hv => hd hp hi v (by simpa using hv)).trans
      (returnGrant_keepsStores _)

/-- A transaction's end keeps the laws when the data it gives a service in progress fit the body. -/
theorem KeepsStores.finishTx (h : KeepsStores s₀ s) (t : Tx) (r : Result) {data : List Byte}
    (hd : s₀.PostLaw → t.requester = .inbound → ∀ v, s.inb.service = some v → v.Admits data) :
    KeepsStores s₀ (finishTx t r data s) := by
  have hc := h.trans (clearTx_keepsStores s t r)
  unfold Machine.finishTx
  dsimp only
  split
  · exact hc.trans (orphanResult_keepsStores ..)
  · exact hc.deliver rfl t r hd

/-- A service whose next step is a body read has part of its body to come (R138). -/
theorem State.PostLaw.admits_nil {v : Service} (h : s.PostLaw) (hv : s.inb.service = some v) : v.Admits [] := by
  intro hs
  have hfit := h.service v hv
  simp only [Service.fits, hs] at hfit
  obtain ⟨-, -, hl⟩ := hfit
  exact Nat.le_of_lt hl

/-- A transaction that ends without data. -/
theorem finishTx_keepsStores (t : Tx) (r : Result) (s : State) : KeepsStores s (finishTx t r [] s) :=
  (KeepsStores.refl s).finishTx t r fun hp _ _ hv => hp.admits_nil hv

end Finish

/-! ### The start of a transaction (R65) -/

section Begin

variable {s : State}

/-- The transaction of a service's step has received nothing when it starts. -/
theorem Service.runs_tx (v : Service) {t : Tx} (ha : t.addr = v.tx.addr) (hc : t.count = v.tx.count)
    (hm : t.command = v.tx.command) (hr : t.readData = []) (hw : t.words = 0) : v.runs t :=
  ⟨ha, hc, hm, by simp [hr, hw]⟩

/-- INBOUND's transaction in progress is its service's (R134, R138, R139). -/
theorem setTx_keepsStores {t : Tx}
    (h : s.PostLaw → t.requester = .inbound → ∃ v, s.inb.service = some v ∧ v.runs t) : KeepsStores s (setTx t s) := by
  refine ⟨id, id, fun hc => hc.of_same rfl rfl, fun hp => ⟨hp.posts, hp.staging, hp.idle, hp.service, fun x hx hi => ?_⟩⟩
  cases hx
  exact h hp hi

theorem Service.tx_fresh (v : Service) : v.tx.readData = [] ∧ v.tx.words = 0 := by
  unfold Service.tx
  split <;> exact ⟨rfl, rfl⟩

theorem putTx_service_keepsStores {v : Service} (hv : s.inb.service = some v) : KeepsStores s (putTx v.tx s) := by
  obtain ⟨hd, hw⟩ := v.tx_fresh
  rw [putTx_eq]
  refine setTx_keepsStores fun _ _ => ⟨v, hv, ?_⟩
  exact Service.runs_tx v rfl rfl rfl hd hw

/-- A transaction is started: INBOUND's is its service's. -/
theorem beginTx_keepsStores {t : Tx} (ht : t.requester = .inbound → ∃ v, s.inb.service = some v ∧ t = v.tx) :
    KeepsStores s (beginTx t s) := by
  unfold beginTx
  split
  · by_cases hi : t.requester = .inbound
    · obtain ⟨v, hv, rfl⟩ := ht hi
      exact putTx_service_keepsStores hv
    · exact putTx_keepsStores s hi
  · exact finishTx_keepsStores ..

end Begin

theorem slotLost_keepsStores (i : SlotId) (s : State) : KeepsStores s (slotLost i s) := by
  unfold slotLost
  split
  · split
    · exact finishTx_keepsStores ..
    · exact .refl s
  · split
    · split
      · exact endPair_keepsStores ..
      · exact .refl s
    · exact .refl s

theorem startSegment_keepsStores (t : Transfer) (slot : SlotId) (addr : ModAddr) (entry : Option Nat) (s : State) :
    KeepsStores s (startSegment t slot addr entry s) := by
  unfold startSegment
  refine KeepsStores.trans (.of_same ?_) (beginTx_keepsStores (by simp [Transfer.segmentTx]))
  simp

theorem issueHead_keepsStores (t : Transfer) (s : State) : KeepsStores s (issueHead t s) := by
  unfold issueHead
  split
  · exact (leaveHead_keepsStores ..).trans (returnGrant_keepsStores _)
  · exact (leaveHead_keepsStores ..).trans (returnGrant_keepsStores _)
  · split
    · exact startSegment_keepsStores ..
    · exact (leaveHead_keepsStores ..).trans (returnGrant_keepsStores _)

theorem assertReset_keepsStores (i : SlotId) (st : SlotState) (cause : LastCause) (timer : Option SlotTimer) (s : State) :
    KeepsStores s (assertReset i st cause timer s) := by
  unfold assertReset
  dsimp only
  have hc := ((modifySlot_keepsStores i s fun r => r.clearedCounts timer).trans (dropItems_keepsStores i _)).trans
    (changeState_keepsStores _ i st cause)
  exact ((hc.same (by simp)).trans (slotLost_keepsStores ..)).trans (enrollDown_keepsStores i _)

/-! ### Read data (R66, R67, R69) -/

/-- Word by word the enabled lanes are those of the bytes addressed. -/
theorem Tx.lanes_length (t : Tx) (i : Nat) :
    min t.count (4 * i - t.addr.toNat % 4) + ([0, 1, 2, 3].filter (t.laneEnabled i)).length =
      min t.count (4 * (i + 1) - t.addr.toNat % 4) := by
  have hbyte : ∀ n, min t.count (n + 1 - t.addr.toNat % 4) =
      min t.count (n - t.addr.toNat % 4) + if t.addr.toNat % 4 ≤ n ∧ n < t.addr.toNat % 4 + t.count then 1 else 0 := by
    intro n
    split <;> omega
  have h0 := hbyte (4 * i)
  have h1 := hbyte (4 * i + 1)
  have h2 := hbyte (4 * i + 2)
  have h3 := hbyte (4 * i + 3)
  simp only [← List.countP_eq_length_filter, List.countP_cons, List.countP_nil, Tx.laneEnabled, Bool.and_eq_true,
    decide_eq_true_eq, Nat.add_zero, Nat.mul_add]
  omega

theorem Service.runs_receive {v : Service} {t : Tx} (h : v.runs t) (word : Word) (parity : BitVec 4) (timeout : Nat) :
    v.runs (t.receive word parity timeout) := by
  obtain ⟨ha, hc, hm, hl⟩ := h
  refine ⟨ha, hc, hm, ?_⟩
  show (t.readData ++ List.map (lane word) _).length = _
  rw [List.length_append, List.length_map, hl]
  exact t.lanes_length t.words

/-- What the transaction of a service has received fits its body (R138). -/
theorem Service.admits_of_runs {v : Service} {t : Tx} (h : v.runs t) {b : Inbound} (hf : v.fits b) :
    v.Admits t.readData := by
  intro hs
  obtain ⟨-, hc, -, hl⟩ := h
  simp only [Service.fits, hs] at hf
  obtain ⟨-, -, hlt⟩ := hf
  have hcount : t.count = v.bodyCount := by rw [hc]; simp [Service.tx, hs]
  have hle : v.bodyCount ≤ v.length - v.body.length := Nat.min_le_right ..
  omega

end Sys2Proof.Machine


/-! ## The laws of the fault list, the notices, the counts and the post queue: the owners of the requests -/

namespace Sys2Proof.Machine

set_option Elab.async false

theorem settle_keepsStores (s : State) : KeepsStores s (settle s) := .of_same (by simp)

theorem KeepsStores.settle {s t : State} (h : KeepsStores s t) : KeepsStores s (settle t) :=
  h.trans (settle_keepsStores t)

/-! ### Windows and pages (R11, R14, R18, R28-R31) -/

section Tables

variable (p : List Byte) (r : ReqId) (s : State)

theorem windowSetOwner_keepsStores : KeepsStores s (windowSetOwner p r s) := by
  unfold windowSetOwner
  (repeat' split) <;> exact .of_same (by simp)

theorem windowClearOwner_keepsStores : KeepsStores s (windowClearOwner p r s) := by
  unfold windowClearOwner clearWindow
  (repeat' split) <;> exact .of_same (by simp)

theorem windowGetOwner_keepsStores : KeepsStores s (windowGetOwner p r s) := by
  unfold windowGetOwner
  (repeat' split) <;> exact .of_same (by simp)

theorem writePages_sameStores (first : Nat) (es : List PageEntry) : SameStores s (writePages first es s) := by
  rw [writePages_eq]
  exact ⟨rfl, rfl, rfl, rfl, rfl, rfl, rfl, rfl⟩

theorem clearPages_sameStores (first count : Nat) : SameStores s (clearPages first count s) := by
  rw [clearPages_eq]
  exact ⟨rfl, rfl, rfl, rfl, rfl, rfl, rfl, rfl⟩

theorem pageWriteOwner_keepsStores : KeepsStores s (pageWriteOwner p r s) := by
  unfold pageWriteOwner
  split
  · exact queueReply_keepsStores ..
  · split
    · split
      · exact queueReply_keepsStores ..
      · exact (KeepsStores.of_same (writePages_sameStores ..)).trans (queueReply_keepsStores ..)
    · exact queueReply_keepsStores ..

theorem pageReadOwner_keepsStores : KeepsStores s (pageReadOwner p r s) := by
  unfold pageReadOwner
  (repeat' split) <;> exact queueReply_keepsStores ..

theorem pageSweepOwner_keepsStores : KeepsStores s (pageSweepOwner p r s) := by
  unfold pageSweepOwner
  split
  · exact queueReply_keepsStores ..
  · split
    · exact (KeepsStores.of_same (clearPages_sameStores ..)).trans (queueReply_keepsStores ..)
    · exact queueReply_keepsStores ..

end Tables

/-! ### Accesses (R38, R52-R55) -/

section Accesses

variable (p : List Byte) (r : ReqId) (s : State)

theorem acceptAccess_keepsStores (start : Word) (length : Nat) (kind : XferKind) :
    KeepsStores s (acceptAccess r start length kind s) := by
  unfold acceptAccess joinQueue
  (repeat' split) <;> exact .of_same (by simp)

theorem accessReadOwner_keepsStores : KeepsStores s (accessReadOwner p r s) := by
  unfold accessReadOwner
  split
  · exact queueReply_keepsStores ..
  · split
    · exact acceptAccess_keepsStores ..
    · exact queueReply_keepsStores ..

theorem accessWriteOwner_keepsStores : KeepsStores s (accessWriteOwner p r s) := by
  unfold accessWriteOwner
  split
  · exact queueReply_keepsStores ..
  · split
    · exact acceptAccess_keepsStores ..
    · exact queueReply_keepsStores ..

theorem accessSwapOwner_keepsStores : KeepsStores s (accessSwapOwner p r s) := by
  unfold accessSwapOwner
  split
  · exact queueReply_keepsStores ..
  · exact acceptAccess_keepsStores ..

theorem accessFenceOwner_keepsStores : KeepsStores s (accessFenceOwner p r s) := by
  unfold accessFenceOwner
  (repeat' split) <;> exact .of_same (by simp)

theorem answerAborted_keepsStores (e : QEntry) : KeepsStores s (answerAborted e r s) := by
  unfold answerAborted
  split
  · next t => exact (answerTransfer_keepsStores s { t with aborts := [r] } .aborted {}).same (by simp)
  · exact .of_same (by simp)

theorem abortAt_keepsStores (n : Nat) (e : QEntry) : KeepsStores s (abortAt n e r s) := by
  have hq : ∀ q u, SameStores u (newHead (setQueue q u)) := by simp
  unfold abortAt
  split
  · split
    · exact .of_same (by simp)
    · have hw : KeepsStores s (if n = 0 then withdrawRequest .transfer s else s) := by
        split
        · exact .of_same ⟨rfl, rfl, rfl, rfl, rfl, rfl, rfl, rfl⟩
        · exact .refl s
      exact (hw.trans (answerAborted_keepsStores ..)).same (hq ..)
  · exact (answerAborted_keepsStores ..).same (hq ..)

theorem accessAbortOwner_keepsStores : KeepsStores s (accessAbortOwner p r s) := by
  unfold accessAbortOwner
  split
  · exact queueReply_keepsStores ..
  · split
    · exact queueReply_keepsStores ..
    · split
      · exact abortAt_keepsStores ..
      · exact queueReply_keepsStores ..

end Accesses

/-! ### Slots (R96, R104, R106-R108) -/

section Slots

variable (i : SlotId) (r : ReqId) (s : State)

theorem onSlot_keepsStores {act : SlotId → ReqId → State → State} (h : ∀ i r s, KeepsStores s (act i r s))
    (p : List Byte) (r : ReqId) (s : State) : KeepsStores s (onSlot p act r s) := by
  unfold onSlot
  split
  · exact queueReply_keepsStores ..
  · split
    · exact queueReply_keepsStores ..
    · exact h ..

theorem getSlot_keepsStores : KeepsStores s (getSlot i r s) := queueReply_keepsStores ..

theorem enrollSlot_keepsStores : KeepsStores s (enrollSlot i r s) := by
  unfold enrollSlot
  split
  · exact ((modifySlot_keepsStores ..).trans (beginEnrollment_keepsStores ..)).settle
  · exact queueReply_keepsStores ..

theorem resetSlot_keepsStores : KeepsStores s (resetSlot i r s) := by
  unfold resetSlot
  split
  · exact queueReply_keepsStores ..
  · exact ((assertReset_keepsStores ..).trans (queueReply_keepsStores ..)).settle

theorem offSlot_keepsStores : KeepsStores s (offSlot i r s) := by
  unfold offSlot
  split
  · exact queueReply_keepsStores ..
  · exact ((assertReset_keepsStores ..).trans (queueReply_keepsStores ..)).settle

theorem onSlotAgain_keepsStores : KeepsStores s (onSlotAgain i r s) := by
  unfold onSlotAgain
  split
  · exact (samplePresence_keepsStores ..).trans (queueReply_keepsStores ..)
  · exact queueReply_keepsStores ..

end Slots

/-! ### The hold (R115, R117, R119) -/

section HoldRequests

variable (p : List Byte) (r : ReqId) (s : State)

theorem holdAcquireOwner_keepsStores : KeepsStores s (holdAcquireOwner p r s) := by
  unfold holdAcquireOwner
  split
  · exact queueReply_keepsStores ..
  · split
    · exact queueReply_keepsStores ..
    · split
      · exact queueReply_keepsStores ..
      · exact withHold_keepsStores ..

theorem takeCycle_keepsStores (c : Cycle) : KeepsStores s (takeCycle c s) := by
  unfold takeCycle
  split
  · exact withHold_keepsStores ..
  · exact startCycles_keepsStores ..

theorem holdCycleOwner_keepsStores : KeepsStores s (holdCycleOwner p r s) := by
  unfold holdCycleOwner
  split
  · exact queueReply_keepsStores ..
  · split
    · split
      · split
        · exact takeCycle_keepsStores ..
        · exact queueReply_keepsStores ..
      · exact queueReply_keepsStores ..
    · exact queueReply_keepsStores ..

theorem releaseHold_keepsStores : KeepsStores s (releaseHold r s) := by
  unfold releaseHold
  split
  · exact queueReply_keepsStores ..
  · exact ((queueOwed_keepsStores ..).trans (queueReply_keepsStores ..)).trans (withHold_keepsStores ..)
  · split
    · exact queueReply_keepsStores ..
    · exact (withHold_keepsStores ..).trans (holdMayEnd_keepsStores _)

theorem holdReleaseOwner_keepsStores : KeepsStores s (holdReleaseOwner p r s) := by
  unfold holdReleaseOwner
  split
  · exact queueReply_keepsStores ..
  · exact releaseHold_keepsStores ..

end HoldRequests

/-! ### Credits, the attention mask, the fault list, the notice mask and the link (R144, R145, R154, R155, R161, R179-R181) -/

section Stores

variable (p : List Byte) (r : ReqId) (s : State)

/-- The credits change within their 64 (R145, R146). -/
theorem withCredits_keepsStores {n : Nat} (h : s.inb.credits ≤ Config.credits → n ≤ Config.credits) :
    KeepsStores s { s with inb := { s.inb with credits := n } } :=
  ⟨id, id, fun hc => ⟨h hc.credits, hc.params⟩, fun hp => hp.of_store rfl rfl rfl fun _ hx _ => hx⟩

theorem postCreditOwner_keepsStores : KeepsStores s (postCreditOwner p r s) := by
  unfold postCreditOwner
  split
  · exact queueReply_keepsStores ..
  · split
    · exact queueReply_keepsStores ..
    · exact (withCredits_keepsStores s fun _ => Nat.min_le_right ..).trans (queueReply_keepsStores ..)

theorem attentionMaskOwner_keepsStores : KeepsStores s (attentionMaskOwner p r s) := by
  unfold attentionMaskOwner
  split
  · exact queueReply_keepsStores ..
  · exact .of_same (by simp)

theorem faultReadOwner_keepsStores : KeepsStores s (faultReadOwner p r s) := by
  unfold faultReadOwner
  (repeat' split) <;> exact queueReply_keepsStores ..

/-- A lawful change of the fault list and the notice unit alone. -/
theorem withNotices_keepsStores {f : Faults} {n : Notices}
    (hf : s.faults.Lawful s.notices.faultEnabled → f.Lawful n.faultEnabled) (hn : s.notices.Lawful → n.Lawful) :
    KeepsStores s { s with faults := f, notices := n } := .of_notices ⟨rfl, rfl, rfl, rfl, rfl, rfl⟩ hf hn

theorem faultClearOwner_keepsStores : KeepsStores s (faultClearOwner p r s) := by
  unfold faultClearOwner
  split
  · exact queueReply_keepsStores ..
  · split
    · exact (withNotices_keepsStores s (fun h => h.suffix (List.dropWhile_suffix _)) id).trans
        (queueReply_keepsStores ..)
    · exact queueReply_keepsStores ..

/-- With FAULT notices disabled no record's notice is pending (R161). -/
theorem Faults.Lawful.remasked {f : Faults} {old : Bool} (h : f.Lawful old) {new : Bool} :
    Faults.Lawful (if new = true then f else f.quiet) new := by
  split
  · next hn => exact ⟨h.length, h.numbers, h.given, fun he => by rw [hn] at he; cases he⟩
  · exact h.repend (fun _ => rfl) fun _ _ _ => rfl

theorem noticeMaskOwner_keepsStores : KeepsStores s (noticeMaskOwner p r s) := by
  unfold noticeMaskOwner
  split
  · exact queueReply_keepsStores ..
  · split
    · exact (withNotices_keepsStores s (fun h => h.remasked) fun _ => Notices.remask_lawful ..).trans
        (queueReply_keepsStores ..)
    · exact queueReply_keepsStores ..

theorem echoOwner_keepsStores : KeepsStores s (echoOwner p r s) := by
  unfold echoOwner
  split <;> exact queueReply_keepsStores ..

theorem configGetOwner_keepsStores : KeepsStores s (configGetOwner p r s) := by
  unfold configGetOwner
  split <;> exact queueReply_keepsStores ..

theorem setParams_keepsStores {q : Params}
    (h : (∀ k : ParamId, k.inRange (s.params.get k) = true) → ∀ k : ParamId, k.inRange (q.get k) = true) :
    KeepsStores s (setParams q s) :=
  ⟨id, id, fun hc => ⟨hc.credits, h hc.params⟩, fun hp => hp.of_store rfl rfl rfl fun _ hx _ => hx⟩

theorem configSetOwner_keepsStores : KeepsStores s (configSetOwner p r s) := by
  unfold configSetOwner
  split
  · exact queueReply_keepsStores ..
  · split
    · exact queueReply_keepsStores ..
    · next hps =>
      exact (setParams_keepsStores s (Params.apply_inRange (inRange_of_checkPairs hps))).trans
        (queueReply_keepsStores ..)

theorem bridgeResetOwner_keepsStores : KeepsStores s (bridgeResetOwner p r s) := by
  unfold bridgeResetOwner
  split <;> exact queueReply_keepsStores ..

end Stores

/-! ### Every owner (R170) -/

theorem ite_keepsStores {c : Prop} [Decidable c] {f g : ReqId → State → State} (hf : ∀ r s, KeepsStores s (f r s))
    (hg : ∀ r s, KeepsStores s (g r s)) : ∀ r s, KeepsStores s ((if c then f else g) r s) := by
  split <;> assumption

theorem ownerOf_keepsStores (kind : Byte) (p : List Byte) : ∀ r s, KeepsStores s (ownerOf kind p r s) := by
  refine ite_keepsStores (windowSetOwner_keepsStores p) ?_
  refine ite_keepsStores (windowClearOwner_keepsStores p) ?_
  refine ite_keepsStores (windowGetOwner_keepsStores p) ?_
  refine ite_keepsStores (pageWriteOwner_keepsStores p) ?_
  refine ite_keepsStores (pageReadOwner_keepsStores p) ?_
  refine ite_keepsStores (pageSweepOwner_keepsStores p) ?_
  refine ite_keepsStores (fun r s => (accessReadOwner_keepsStores p r s).settle) ?_
  refine ite_keepsStores (fun r s => (accessWriteOwner_keepsStores p r s).settle) ?_
  refine ite_keepsStores (fun r s => (accessSwapOwner_keepsStores p r s).settle) ?_
  refine ite_keepsStores (fun r s => (accessFenceOwner_keepsStores p r s).settle) ?_
  refine ite_keepsStores (fun r s => (accessAbortOwner_keepsStores p r s).settle) ?_
  refine ite_keepsStores (onSlot_keepsStores getSlot_keepsStores p) ?_
  refine ite_keepsStores (onSlot_keepsStores enrollSlot_keepsStores p) ?_
  refine ite_keepsStores (onSlot_keepsStores resetSlot_keepsStores p) ?_
  refine ite_keepsStores (onSlot_keepsStores offSlot_keepsStores p) ?_
  refine ite_keepsStores (onSlot_keepsStores onSlotAgain_keepsStores p) ?_
  refine ite_keepsStores (fun r s => (holdAcquireOwner_keepsStores p r s).settle) ?_
  refine ite_keepsStores (holdCycleOwner_keepsStores p) ?_
  refine ite_keepsStores (fun r s => (holdReleaseOwner_keepsStores p r s).settle) ?_
  refine ite_keepsStores (postCreditOwner_keepsStores p) ?_
  refine ite_keepsStores (attentionMaskOwner_keepsStores p) ?_
  refine ite_keepsStores (faultReadOwner_keepsStores p) ?_
  refine ite_keepsStores (faultClearOwner_keepsStores p) ?_
  refine ite_keepsStores (noticeMaskOwner_keepsStores p) ?_
  refine ite_keepsStores (echoOwner_keepsStores p) ?_
  refine ite_keepsStores (configGetOwner_keepsStores p) ?_
  refine ite_keepsStores (configSetOwner_keepsStores p) ?_
  refine ite_keepsStores (bridgeResetOwner_keepsStores p) ?_
  exact fun r s => queueReply_keepsStores s r ..

end Sys2Proof.Machine


/-! ## The laws of the fault list, the notices, the counts and the post queue: every command -/

namespace Sys2Proof.Machine

set_option Elab.async false

/-! ### The receipt of a request, resets and breaks (R168, R170, R177, R178) -/

section Link

variable (s : State)

/-- A change of the host link alone. -/
theorem withLink_keepsStores (l : Link) : KeepsStores s { s with link := l } :=
  .of_same ⟨rfl, rfl, rfl, rfl, rfl, rfl, rfl, rfl⟩

theorem handOn_keepsStores (kind seq : Byte) (payload : List Byte) :
    KeepsStores s (handOn kind seq payload (ownerOf kind payload) s) := by
  unfold handOn
  dsimp only
  split
  · exact .refl s
  · exact withLink_keepsStores ..
  · exact withLink_keepsStores ..
  · exact (withLink_keepsStores ..).trans (ownerOf_keepsStores ..)

theorem takeReset_keepsStores : KeepsStores s (takeReset s) := .of_same (by simp)

/-- A frame cut off sets an indication again only while its kind is enabled (R160). -/
theorem cutOff_keepsStores : KeepsStores s (cutOff s) := by
  have hl := withLink_keepsStores s { s.link with transmitter := none }
  unfold cutOff
  dsimp only
  split
  · exact withLink_keepsStores ..
  · split
    · next he => exact hl.trans (withNotices_keepsStores _ (fun h => h.mark _ fun _ => he) id)
    · exact hl
  · split
    · next he =>
      refine hl.trans (withNotices_keepsStores _ id fun h => h.setHoldEnd fun hd => ?_)
      exact absurd he.1 (ne_true_of_eq_false hd)
    · exact hl
  · exact hl

theorem breakHold_keepsStores : KeepsStores s (breakHold s) := by
  unfold breakHold
  split
  · exact .refl s
  · exact withHold_keepsStores ..
  · exact (withHold_keepsStores ..).trans (holdMayEnd_keepsStores _)

theorem beginBreak_keepsStores : KeepsStores s (beginBreak s) := by
  have hc : ∀ l p, KeepsStores s { cutOff s with link := l, inb := { (cutOff s).inb with credits := 0 }, pins := p } :=
    fun l p => ((cutOff_keepsStores s).trans (withCredits_keepsStores _ fun _ => Nat.zero_le _)).same
      ⟨rfl, rfl, rfl, rfl, rfl, rfl, rfl, rfl⟩
  unfold beginBreak
  dsimp only
  split
  · exact (((hc ..).trans (breakHold_keepsStores _)).trans (noteAllSlots_keepsStores _)).trans (takeReset_keepsStores _)
  · exact ((hc ..).trans (breakHold_keepsStores _)).trans (noteAllSlots_keepsStores _)

theorem endBreak_keepsStores : KeepsStores s (endBreak s) := .of_same ⟨rfl, rfl, rfl, rfl, rfl, rfl, rfl, rfl⟩

end Link

section Line

variable (s₀ : State)

theorem passOn_keepsStores (q : RxRequest) (s : State) (h : KeepsStores s₀ s) : KeepsStores s₀ (passOn q s) :=
  h.trans (handOn_keepsStores ..)

theorem hearLevels_keepsStores (cs : List LineChar) (heard : List RxChar) :
    KeepsStores s₀ (hearLevels cs heard s₀) :=
  hearLevels_keeps (P := KeepsStores s₀) (fun _ _ h => h.trans (withLink_keepsStores ..)) (passOn_keepsStores s₀)
    (fun _ _ h _ _ => h.trans (withLink_keepsStores ..)) (fun s h _ => (h.trans (beginBreak_keepsStores s)).settle)
    (fun s h _ => h.trans (endBreak_keepsStores s)) cs heard (.refl s₀)

theorem onRequest_keepsStores (kind seq : Byte) (payload : List Byte) :
    KeepsStores s₀ (onRequest kind seq payload (ownerOf kind payload) s₀) :=
  onRequest_keeps (P := KeepsStores s₀) (fun _ _ h => h.trans (withLink_keepsStores ..)) (passOn_keepsStores s₀)
    (fun _ _ h _ _ => h.trans (withLink_keepsStores ..)) (fun s h _ => (h.trans (beginBreak_keepsStores s)).settle)
    (fun s h _ => h.trans (endBreak_keepsStores s)) (fun _ h => h.trans (handOn_keepsStores ..)) (.refl s₀)

end Line

/-! ### Power-on and the transmit line (R146, R160, R174, R176, R178) -/

section Frames

variable (s : State)

/-- The parameters' defaults lie in their ranges (R181). -/
theorem reset_params_inRange (p : ParamId) : p.inRange (State.reset.params.get p) = true := by
  cases p <;> decide

/-- The stores at power-on are empty (R128, R148), and every notice is enabled (R161). -/
theorem execPowerOn_keepsStores {pins : PowerPins} {t : State} (h : execPowerOn pins s = .next t) : KeepsStores s t := by
  cases h
  refine ⟨fun _ => ⟨Nat.zero_le _, fun k e hk => ?_, fun hn => absurd rfl hn, fun _ e he => ?_⟩,
    fun _ => ⟨fun (he : true = false) => ?_, fun _ => rfl⟩, fun _ => ⟨Nat.zero_le _, reset_params_inRange⟩,
    fun _ => .of_idle (Nat.zero_le _) (Nat.zero_le _) rfl rfl fun x hx => ?_⟩
  · cases hk
  · cases he
  · cases he
  · cases hx

/-- A service that fits a store fits one with fewer posts and the same reservation. -/
theorem Service.fits_of_fewer {b c : Inbound} (hp : c.posts.length ≤ b.posts.length) (hr : c.reserved = b.reserved)
    {v : Service} (h : v.fits b) : v.fits c := by
  unfold Service.fits at h ⊢
  rw [hr]
  cases hs : v.step with
  | header | discardTake => simpa only [hs] using h
  | body | take =>
    simp only [hs] at h
    obtain ⟨hroom, hrest⟩ := h
    exact ⟨Nat.lt_of_le_of_lt hp hroom, hrest⟩

/-- The head of the post queue leaves (R146). -/
theorem postSent_keepsStores : KeepsStores s (postSent s) := by
  refine ⟨id, id, fun h => h.of_same (by simp) (by simp), fun h => ?_⟩
  have hlen : s.inb.posts.tail.length ≤ s.inb.posts.length := by simp
  have hsum : (s.inb.posts.tail.map fun p => p.body.length).sum ≤ (s.inb.posts.map fun p => p.body.length).sum := by
    cases s.inb.posts <;> simp
  exact ⟨hlen.trans h.posts, (Nat.add_le_add_right hsum _).trans h.staging, h.idle,
    fun v hv => Service.fits_of_fewer (c := (postSent s).inb) hlen rfl (h.service v hv), h.tx⟩

theorem replySent_keepsStores (r : Reply) : KeepsStores s (replySent r s) := .of_same (by simp)

theorem execFrameSent_keepsStores {t : State} (h : execFrameSent s = .next t) : KeepsStores s t := by
  have hl := withLink_keepsStores s { s.link with transmitter := none }
  cases h
  split
  · exact .refl s
  · refine KeepsStores.settle (hl.trans ?_)
    split
    · exact replySent_keepsStores ..
    · exact postSent_keepsStores _
    · exact .refl _

theorem beginNotice_keepsStores (kind : Byte) (payload : List Byte) (src : FrameSource) :
    KeepsStores s (beginNotice kind payload src s) := .of_same (by simp)

/-- A notice begun clears its indication, and a POST takes a credit (R146, R160). -/
theorem beginPending_keepsStores : KeepsStores s (beginPending s) := by
  unfold beginPending
  split
  · refine .trans ?_ (beginNotice_keepsStores ..)
    exact withNotices_keepsStores s id fun h => h.clearSlot _
  · split
    · refine .trans ?_ (beginNotice_keepsStores ..)
      exact withNotices_keepsStores s id fun h => h.setHoldEnd fun _ => rfl
    · split
      · refine .trans ?_ (beginNotice_keepsStores ..)
        exact withNotices_keepsStores s (fun h => h.mark _ (by simp)) id
      · split
        · split
          · refine .trans ?_ (beginNotice_keepsStores ..)
            exact withCredits_keepsStores s fun h => (Nat.sub_le ..).trans h
          · exact .refl s
        · exact .refl s

theorem beginFrame_keepsStores : KeepsStores s (beginFrame s) := by
  unfold beginFrame transmit
  split
  · exact withLink_keepsStores ..
  · split
    · exact withLink_keepsStores ..
    · split
      · exact (withLink_keepsStores ..).trans (beginNotice_keepsStores ..)
      · exact beginPending_keepsStores s

/-- At the completion of a bridge reset the fault list, the post queue and the staging store are empty (R131, R153). -/
theorem completeReset_keepsStores (ht : s.ctrl.tx = none) : KeepsStores s (completeReset s) := by
  unfold completeReset
  refine KeepsStores.trans ?_ (noteAllSlots_keepsStores _)
  refine ⟨fun h => h.suffix List.nil_suffix, fun h => h.setHoldEnd fun _ => rfl, fun h => ⟨Nat.zero_le _, h.params⟩,
    fun _ => .of_idle (Nat.zero_le _) (Nat.zero_le _) rfl rfl fun x hx => ?_⟩
  have hx : s.ctrl.tx = some x := hx
  rw [ht] at hx
  cases hx

theorem execBridgeResetComplete_keepsStores {t : State} (h : execBridgeResetComplete s = .next t) : KeepsStores s t := by
  cases h
  split
  · next hc =>
    obtain ⟨-, ht, -⟩ := hc
    exact (completeReset_keepsStores s (Option.isNone_iff_eq_none.mp ht)).settle
  · exact .refl s

end Frames

/-! ### The grants (R42, R91, R116) -/

section Grants

variable (s : State)

theorem takeGrant_keepsStores (r : Requester) : KeepsStores s (takeGrant r s) := .of_same (by simp)

theorem execTransferGrant_keepsStores {t : State} (h : execTransferGrant s = .next t) : KeepsStores s t := by
  cases h
  split
  · refine KeepsStores.settle ((takeGrant_keepsStores s .transfer).trans ?_)
    split
    · exact issueHead_keepsStores ..
    · exact returnGrant_keepsStores _
  · exact .refl s

theorem execSuperviseGrant_keepsStores {t : State} (h : execSuperviseGrant s = .next t) : KeepsStores s t := by
  cases h
  split
  · refine KeepsStores.settle ((takeGrant_keepsStores s .supervise).trans ?_)
    split
    · next rest _ =>
      have hw : KeepsStores (takeGrant .supervise s)
          { takeGrant .supervise s with sup := { (takeGrant .supervise s).sup with work := rest } } :=
        .of_same ⟨rfl, rfl, rfl, rfl, rfl, rfl, rfl, rfl⟩
      dsimp only
      split
      · exact hw.trans (beginTx_keepsStores (by simp))
      · exact hw.trans (returnGrant_keepsStores _)
    · exact returnGrant_keepsStores _
  · exact .refl s

theorem execHoldGrant_keepsStores {t : State} (h : execHoldGrant s = .next t) : KeepsStores s t := by
  cases h
  split
  · exact ((((takeGrant_keepsStores s .hold).trans (withHold_keepsStores ..)).trans (queueOwed_keepsStores ..)).trans
      (skipItems_keepsStores _)).settle
  · exact .refl s

end Grants

/-! ### The events of the transaction in progress (R66-R69) -/

section Progress

variable (s : State)

theorem driveCheck_keepsStores (c : ReadCheck) : KeepsStores s (driveCheck c s) := .of_same (by simp)

/-- The read check, where one is driven, and the transaction's end. -/
theorem checkedEnd_keepsStores {c : Prop} [Decidable c] (t : Tx) (r : Result) :
    KeepsStores s (finishTx t r [] (if c then driveCheck .refuse s else s)) := by
  refine KeepsStores.trans ?_ (finishTx_keepsStores ..)
  split
  · exact driveCheck_keepsStores ..
  · exact .refl s

/-- A transaction goes on to its next phase. -/
theorem nextPhase_keepsStores {t : Tx} (ht : s.ctrl.tx = some t) (phase : Phase) (timer : Option Nat) :
    KeepsStores s (setTx { t with phase := phase, timer := timer } s) :=
  setTx_keepsStores fun h hi => h.tx t ht hi

theorem execRequestDriven_keepsStores {t : State} (h : execRequestDriven s = .next t) : KeepsStores s t := by
  cases h
  split
  · next ht =>
    split
    · exact nextPhase_keepsStores s ht ..
    · exact .refl s
  · exact .refl s

theorem execResponseCodeArrives_keepsStores {code : ResponseCode} {good : Bool} {t : State}
    (h : execResponseCodeArrives code good s = .next t) : KeepsStores s t := by
  cases h
  split
  · next ht =>
    split
    · refine KeepsStores.settle ?_
      split
      · exact nextPhase_keepsStores s ht ..
      · exact checkedEnd_keepsStores ..
    · exact .refl s
  · exact .refl s

theorem execReadDataWordArrives_keepsStores {word : Word} {parity : BitVec 4} {t : State}
    (h : execReadDataWordArrives word parity s = .next t) : KeepsStores s t := by
  cases h
  split
  · next x hx =>
    have hruns : s.PostLaw → x.requester = .inbound →
        ∃ v, s.inb.service = some v ∧ v.runs (x.receive word parity s.params.responseTimeout) := by
      intro hp hi
      obtain ⟨v, hv, hr⟩ := hp.tx x hx hi
      exact ⟨v, hv, Service.runs_receive hr ..⟩
    split
    · refine KeepsStores.settle ?_
      split
      · exact setTx_keepsStores hruns
      · split
        · exact (driveCheck_keepsStores ..).trans (finishTx_keepsStores ..)
        · refine (driveCheck_keepsStores s .accept).finishTx _ _ fun hp hi v hv => ?_
          obtain ⟨w, hw, hr⟩ := hruns hp hi
          obtain rfl : w = v := Option.some.inj (hw.symm.trans hv)
          exact Service.admits_of_runs hr (hp.service w hw)
    · exact .refl s
  · exact .refl s

theorem execResponseTimerExpiry_keepsStores {t : State} (h : execResponseTimerExpiry s = .next t) : KeepsStores s t := by
  cases h
  split
  · split
    · exact (checkedEnd_keepsStores ..).settle
    · exact .refl s
  · exact .refl s

theorem execRetryDelayExpiry_keepsStores {t : State} (h : execRetryDelayExpiry s = .next t) : KeepsStores s t := by
  cases h
  (repeat' split) <;> exact .of_same (by simp)

theorem execSwapResendDelayExpiry_keepsStores {t : State} (h : execSwapResendDelayExpiry s = .next t) :
    KeepsStores s t := by
  cases h
  split
  · split
    · exact (sendSecond_keepsStores ..).settle
    · exact .refl s
  · exact .refl s

end Progress

/-! ### Slots (R87-R89, R95, R97, R105) -/

section SlotEvents

variable (s : State) (i : SlotId)

theorem setPresence_keepsStores (level : Bool) : KeepsStores s (setPresence i level s) :=
  .of_same ⟨rfl, rfl, rfl, rfl, rfl, rfl, rfl, rfl⟩

theorem execSettleTimerExpiry_keepsStores {t : State} (h : execSettleTimerExpiry i s = .next t) : KeepsStores s t := by
  cases h
  split
  · refine KeepsStores.settle ?_
    split
    · exact beginEnrollment_keepsStores ..
    · exact (modifySlot_keepsStores ..).trans (changeState_keepsStores ..)
  · exact .refl s

theorem execAttemptGapExpiry_keepsStores {t : State} (h : execAttemptGapExpiry i s = .next t) : KeepsStores s t := by
  cases h
  split
  · exact (beginAttempt_keepsStores ..).settle
  · exact .refl s

theorem execCheckTimerExpiry_keepsStores {t : State} (h : execCheckTimerExpiry i s = .next t) : KeepsStores s t := by
  cases h
  split
  · exact ((modifySlot_keepsStores ..).trans (checkDue_keepsStores ..)).settle
  · exact .refl s

theorem execPulseTimerExpiry_keepsStores {t : State} (h : execPulseTimerExpiry i s = .next t) : KeepsStores s t := by
  cases h
  split
  · exact samplePresence_keepsStores ..
  · exact .refl s

theorem execPresenceActive_keepsStores {t : State} (h : execPresenceActive i s = .next t) : KeepsStores s t := by
  cases h
  split
  · exact .refl s
  · dsimp only
    split
    · exact (setPresence_keepsStores ..).trans (enterSettling_keepsStores ..)
    · exact setPresence_keepsStores ..

theorem execPresenceInactive_keepsStores {t : State} (h : execPresenceInactive i s = .next t) : KeepsStores s t := by
  have hp := (setPresence_keepsStores s i false).trans (presenceLost_keepsStores i _)
  cases h
  split
  · exact ((hp.same (by simp)).trans (slotLost_keepsStores ..)).settle
  · exact .refl s

end SlotEvents

/-! ### Every command -/

/-- Every command but the grant to INBOUND keeps the laws whoever holds the grant. -/
theorem exec_keepsStores {c : Instr} (hc : c ≠ .inboundGrant) (s : State) {t : State} (h : exec c s = .next t) :
    KeepsStores s t := by
  cases hr : c.request with
  | some q =>
    obtain ⟨kind, seq, payload⟩ := q
    rw [exec_request hr] at h
    cases h
    split
    · exact onRequest_keepsStores ..
    · exact .refl s
  | none =>
    cases c with
    | inboundGrant => exact absurd rfl hc
    | powerOn pins => exact execPowerOn_keepsStores s h
    | frameSent => exact execFrameSent_keepsStores s h
    | bridgeResetComplete => exact execBridgeResetComplete_keepsStores s h
    | transferGrant => exact execTransferGrant_keepsStores s h
    | superviseGrant => exact execSuperviseGrant_keepsStores s h
    | holdGrant => exact execHoldGrant_keepsStores s h
    | requestDriven => exact execRequestDriven_keepsStores s h
    | responseCodeArrives code good => exact execResponseCodeArrives_keepsStores s h
    | readDataWordArrives word parity => exact execReadDataWordArrives_keepsStores s h
    | responseTimerExpiry => exact execResponseTimerExpiry_keepsStores s h
    | retryDelayExpiry => exact execRetryDelayExpiry_keepsStores s h
    | swapResendDelayExpiry => exact execSwapResendDelayExpiry_keepsStores s h
    | settleTimerExpiry i => exact execSettleTimerExpiry_keepsStores s i h
    | attemptGapExpiry i => exact execAttemptGapExpiry_keepsStores s i h
    | checkTimerExpiry i => exact execCheckTimerExpiry_keepsStores s i h
    | pulseTimerExpiry i => exact execPulseTimerExpiry_keepsStores s i h
    | presenceActive i => exact execPresenceActive_keepsStores s i h
    | presenceInactive i => exact execPresenceInactive_keepsStores s i h
    | frameDiscard chars => cases h; exact hearLevels_keepsStores ..
    | breakBegin => cases h; split; exacts [.refl s, (beginBreak_keepsStores s).settle]
    | breakEnd => cases h; split; exacts [endBreak_keepsStores s, .refl s]
    | outputFrameBegin => cases h; split; exacts [beginFrame_keepsStores s, .refl s]
    | limitTimerExpiry =>
      cases h
      split
      exacts [((withHold_keepsStores ..).trans (holdMayEnd_keepsStores _)).settle, .refl s]
    | holdEnds => cases h; split; exacts [.refl s, (holdMayEnd_keepsStores s).settle]
    | backOffExpiry i => cases h; split; exacts [.of_same (by simp), .refl s]
    | stampTick => cases h; exact .of_same ⟨rfl, rfl, rfl, rfl, rfl, rfl, rfl, rfl⟩
    | attentionChange i level => cases h; exact .of_same (by simp)
    | windowDrainEnd w => cases h; exact .of_same (by simp)
    | fenceAtHead => cases h; exact .of_same (by simp)
    | _ => cases hr

/-! ### The grant to INBOUND (R133, R141) -/

/-- The three laws pass from one state to another whose grant is lawful. -/
structure KeepsLaws (s t : State) : Prop where
  faultLaw : s.FaultLaw → t.FaultLaw
  countLaw : s.CountLaw → t.CountLaw
  postLaw  : s.GrantLaw → s.PostLaw → t.PostLaw

theorem KeepsStores.keepsLaws {s t : State} (h : KeepsStores s t) : KeepsLaws s t := by
  refine ⟨fun hl => ?_, h.counts, fun _ => h.posts⟩
  obtain ⟨hf, hn⟩ := (State.faultLaw_iff s).mp hl
  exact (State.faultLaw_iff t).mpr ⟨h.faults hf, h.notices hn⟩

theorem KeepsLaws.andThen {s t u : State} (h : KeepsLaws s t) (k : KeepsStores t u) : KeepsLaws s u :=
  ⟨fun hl => k.keepsLaws.faultLaw (h.faultLaw hl), fun hl => k.counts (h.countLaw hl),
    fun hg hl => k.posts (h.postLaw hg hl)⟩

/-- A change of the service in progress, while nothing is in progress on the backplane. -/
theorem KeepsLaws.of_service {s : State} {a : Arb} {b : Inbound} (hc : b.credits = s.inb.credits)
    (hp : s.GrantLaw → s.PostLaw → State.PostLaw { s with arb := a, inb := b }) :
    KeepsLaws s { s with arb := a, inb := b } :=
  ⟨fun h => ⟨h.length, h.numbers, h.given, h.masked, h.slots, h.holdEnd⟩, fun h => h.of_same hc rfl, hp⟩

theorem execInboundGrant_keepsLaws (s : State) {t : State} (h : execInboundGrant s = .next t) : KeepsLaws s t := by
  cases h
  split
  · next hd =>
    have htx : s.GrantLaw → s.ctrl.tx = none := by
      intro hg
      simp only [grantDue, Bool.and_eq_true, decide_eq_true_eq] at hd
      rw [Option.eq_none_iff_forall_ne_some]
      intro x hx
      have := hg.tx x hx
      rw [hd.1] at this
      cases this
    refine KeepsLaws.andThen ?_ (settle_keepsStores _)
    split
    · next hs =>
      have hs : s.inb.service = none := hs
      split
      · next i _ =>
        have hw : KeepsLaws s (selectService i (takeGrant .inbound s)) := by
          refine .of_service rfl fun hg hp => hp.goesOn (htx hg) rfl hp.staging rfl ?_
          exact hp.idle hs
        exact hw.andThen (beginTx_keepsStores fun _ => ⟨_, rfl, rfl⟩)
      · exact ((takeGrant_keepsStores ..).trans (returnGrant_keepsStores _)).keepsLaws
    · next v hs =>
      split
      · exact ((takeGrant_keepsStores s .inbound).trans (beginTx_keepsStores fun _ => ⟨v, hs, rfl⟩)).keepsLaws
      · have hw : KeepsLaws s (dropService (takeGrant .inbound s)) := by
          rw [dropService_eq]
          exact .of_service rfl fun hg hp => hp.ended (htx hg) rfl rfl rfl
        exact hw.andThen (returnGrant_keepsStores _)
  · exact (KeepsStores.refl s).keepsLaws

theorem exec_keepsLaws (c : Instr) (s : State) {t : State} (h : exec c s = .next t) : KeepsLaws s t := by
  by_cases hc : c = .inboundGrant
  · subst hc
    exact execInboundGrant_keepsLaws s h
  · exact (exec_keepsStores hc s h).keepsLaws

theorem step_keepsLaws {s t : State} (h : step s = .next t) : KeepsLaws s t := by
  unfold step at h
  split at h
  · next c rest _ =>
    obtain ⟨hf, hc, hp⟩ := exec_keepsLaws c { s with pending := rest } h
    exact ⟨fun hl => hf ⟨hl.length, hl.numbers, hl.given, hl.masked, hl.slots, hl.holdEnd⟩,
      fun hl => hc (hl.of_same rfl rfl), fun hg hl => hp { hg with } (hl.of_store rfl rfl rfl fun _ hx _ => hx)⟩
  · cases h
    exact (KeepsStores.refl s).keepsLaws

/-- Settles O55: a step runs the front command, and every command keeps both laws. -/
theorem faultAndCountLawsKept : Obligations.FaultAndCountLawsKept :=
  fun _ _ h => ⟨(step_keepsLaws h).faultLaw, (step_keepsLaws h).countLaw⟩

/-- Settles O59: every command keeps the post law; the grant to INBOUND comes with nothing in progress by the law of the
grant. -/
theorem postLawKept : Obligations.PostLawKept := fun _ _ hg hp h => (step_keepsLaws h).postLaw hg hp

end Sys2Proof.Machine


/-! ## The fault list and the notice mask: records made, FAULT_READ, FAULT_CLEAR and NOTICE_MASK -/

namespace Sys2Proof.Machine

set_option Elab.async false

/-! ### Records made, and the stamp (R151, R152) -/

/-- Settles O43: a list with room keeps its records, a full one loses its head. -/
theorem makeRecord_and_stampTick : Obligations.MakeRecord := by
  refine ⟨fun r s hl => ?_, fun r s e rest he hl => ?_, fun s => ⟨s.stamp + 1, ?_, rfl⟩⟩
  · have hroom : ¬Config.faultRecords ≤ s.faults.entries.length := Nat.not_le.mpr hl
    simp only [makeRecord, hroom, decide_false, if_false]
  · have hfull : Config.faultRecords ≤ (e :: rest).length := by rw [List.length_cons, hl]; decide
    simp only [makeRecord, he, hfull, decide_true, if_true, List.tail_cons]
  · exact BitVec.toNat_add s.stamp 1

/-! ### The bytes of a record (R190) -/

theorem bytes16_le16 (a b : Byte) : bytes16 (le16 a b) = [a, b] := by
  have hlow : (b ++ a).extractLsb' 0 8 = a := (BitVec.extractLsb'_append_eq_of_add_le (by omega)).trans (by simp)
  have hhigh : (b ++ a).extractLsb' 8 8 = b := (BitVec.extractLsb'_append_eq_of_le (by omega)).trans (by simp)
  show [(b ++ a).extractLsb' 0 8, (b ++ a).extractLsb' 8 8] = [a, b]
  rw [hlow, hhigh]

theorem le16_getLsbD (a b : Byte) (k : Nat) :
    (le16 a b).getLsbD k = if k < 8 then a.getLsbD k else b.getLsbD (k - 8) := BitVec.getLsbD_append ..

theorem flagBit_getLsbD (b : Bool) (k j : Nat) :
    (flagBit b k).getLsbD j = (b && (decide (k < 8) && decide (k = j))) := by
  cases b with
  | false => exact BitVec.getLsbD_zero
  | true => exact BitVec.getLsbD_twoPow k j

/-- The presence word of a record, of which `FaultRecord.presence` is the two bytes. -/
def FaultRecord.presenceWord (r : FaultRecord) : BitVec 16 := le16 (byteAt r.presence 0) (byteAt r.presence 1)

theorem FaultRecord.presence_eq (r : FaultRecord) : r.presence = bytes16 r.presenceWord := (bytes16_le16 ..).symm

/-- The flags of a presence word in the order of their bits. -/
def FaultRecord.presenceFlags (r : FaultRecord) : List Bool :=
  [r.lost, r.slot.isSome, r.epoch.isSome, r.seq.isSome, r.bridge.isSome, r.moduleAddr.isSome, r.completed.isSome,
    r.channel.isSome, r.tag.isSome]

theorem FaultRecord.presenceWord_getLsbD (r : FaultRecord) (k : Nat) :
    r.presenceWord.getLsbD k = r.presenceFlags.getD k false := by
  match k with
  | 0 | 1 | 2 | 3 | 4 | 5 | 6 | 7 | 8 | _ + 9 =>
    simp [presenceWord, presenceFlags, presence, byteAt, le16_getLsbD, flagBit_getLsbD, -BitVec.getLsbD_eq_getElem]

theorem FaultRecord.bytes_eq (r : FaultRecord) :
    r.bytes = bytes32 r.number ++ [(match r.kind with | .postedWrite => 1 | .inbound => 2 | .slot => 3 : Byte)] ++
      bytes32 r.stamp ++ [r.code.code] ++ bytes16 r.presenceWord ++
      [(match r.slot with | some i => byteOf i.val | none => 0), r.epoch.getD 0, r.seq.getD 0] ++
      bytes32 (r.bridge.getD 0) ++ bytes24 (r.moduleAddr.getD 0) ++ countBytes (r.completed.getD 0) ++
      [r.channel.getD 0, r.tag.getD 0] := by
  rw [← r.presence_eq]
  obtain ⟨_, kind, _, _, _, slot⟩ := r
  cases kind <;> cases slot <;> rfl

/-! ### Records by their age (R153) -/

/-- What is dropped while a condition holds of exactly the first `n` elements. -/
theorem dropWhile_eq_drop_of_front {α : Type} {p : α → Bool} {l : List α} {n : Nat}
    (h : ∀ k e, l[k]? = some e → (p e = true ↔ k < n)) : l.dropWhile p = l.drop n := by
  induction l generalizing n with
  | nil => simp
  | cons a l ih =>
    cases n with
    | zero =>
      have ha : ¬p a = true := fun hp => absurd ((h 0 a rfl).mp hp) (Nat.not_lt_zero 0)
      rw [List.dropWhile_cons_of_neg ha, List.drop_zero]
    | succ n =>
      rw [List.dropWhile_cons_of_pos ((h 0 a rfl).mpr n.succ_pos), List.drop_succ_cons]
      exact ih fun k e hk => (h (k + 1) e hk).trans (Nat.succ_lt_succ_iff)

section Ages

variable {f : Faults} {enabled : Bool}

/-- The records' ages run down to 0 at the tail. -/
theorem Faults.Lawful.age_of_getElem? (h : f.Lawful enabled) {k : Nat} {e : FaultEntry} (hk : f.entries[k]? = some e) :
    f.age e.record.number + k + 1 = f.entries.length := by
  obtain ⟨hlt, -⟩ := List.getElem?_eq_some_iff.mp hk
  have hlen : f.entries.length ≤ 32 := h.length
  have hnum := h.numbers k e hk
  have hage : f.next - 1 - e.record.number = BitVec.ofNat 32 (f.entries.length - k - 1) := by
    rw [← hnum]
    bv_omega
  rw [Faults.age, hage, BitVec.toNat_ofNat, Nat.mod_eq_of_lt (by omega)]
  omega

theorem Faults.wasGiven_iff (f : Faults) (m : Word) : f.wasGiven m = true ↔ f.given = true ∧ f.age m < 2 ^ 31 := by
  simp [Faults.wasGiven]

theorem Faults.wasGiven_eq_false_iff (f : Faults) (m : Word) :
    f.wasGiven m = false ↔ f.given = false ∨ 2 ^ 31 ≤ f.age m := by
  rw [← Bool.not_eq_true, f.wasGiven_iff, not_and_or, Bool.not_eq_true, Nat.not_lt]

theorem Faults.select_of_notGiven {m : Word} (h : f.given = false ∨ 2 ^ 31 ≤ f.age m) (most : Nat) :
    f.select m most = [] := by
  rw [Faults.select, (f.wasGiven_eq_false_iff m).mpr h]
  rfl

/-- The records of a given number and younger (R154). -/
theorem Faults.Lawful.select_of_given (h : f.Lawful enabled) {m : Word} (hg : f.given = true) (ha : f.age m < 2 ^ 31)
    (most : Nat) : f.select m most = (f.entries.drop (f.entries.length - (f.age m + 1))).take most := by
  rw [Faults.select, if_pos ((f.wasGiven_iff m).mpr ⟨hg, ha⟩), dropWhile_eq_drop_of_front fun k e hk => ?_]
  have := h.age_of_getElem? hk
  rw [decide_eq_true_iff]
  omega

/-- The records younger than a number (R155). -/
theorem Faults.Lawful.after_eq (h : f.Lawful enabled) (m : Word) :
    f.after m = f.entries.drop (f.entries.length - f.age m) := by
  refine dropWhile_eq_drop_of_front fun k e hk => ?_
  have := h.age_of_getElem? hk
  rw [decide_eq_true_iff]
  omega

end Ages

/-! ### The requests of the fault list and of the notice mask (R154, R155, R161) -/

theorem parseFaultRead_eq_none {p : List Byte} (h : p.length ≠ 5) : parseFaultRead p = none := by
  unfold parseFaultRead
  split
  · exact absurd rfl h
  · rfl

theorem parseFaultClear_eq_none {p : List Byte} (h : p.length ≠ 4) : parseFaultClear p = none := by
  unfold parseFaultClear
  split
  · exact absurd rfl h
  · rfl

theorem parseNoticeMask_eq_none {p : List Byte} (h : p.length ≠ 2) : parseNoticeMask p = none := by
  unfold parseNoticeMask
  split
  · exact absurd rfl h
  · rfl

/-- A mask clears indications alone (R161). -/
theorem Faults.ite_quiet (f : Faults) (enabled : Bool) :
    (if enabled then f else f.quiet) = { f with entries :=
      if enabled then f.entries else f.entries.map fun e => { e with pending := false } } := by
  cases enabled <;> rfl

/-- The accepted request's own reply beside a change of the fault list and of the notice unit. -/
theorem queueReply_accepted_notices (kind seq : Byte) (payload : List Byte) (s : State) (f : Faults) (n : Notices)
    (st : Status) (body : List Byte) :
    queueReply (reqId kind seq payload s) st body { s.accepted kind seq payload with faults := f, notices := n } =
      { s.answered kind seq payload st body with faults := f, notices := n } := by
  rw [queueReply_of_session rfl]
  rfl

section Requests

variable {seq : Byte} {payload : List Byte} {s : State}

theorem exec_faultRead (ha : Accepts Kind.faultRead seq payload s) :
    exec (.faultRead seq payload) s = .next (faultReadOwner payload (reqId Kind.faultRead seq payload s)
      (s.accepted Kind.faultRead seq payload)) := exec_of_accepts rfl rfl ha

theorem exec_faultClear (ha : Accepts Kind.faultClear seq payload s) :
    exec (.faultClear seq payload) s = .next (faultClearOwner payload (reqId Kind.faultClear seq payload s)
      (s.accepted Kind.faultClear seq payload)) := exec_of_accepts rfl rfl ha

theorem exec_noticeMask (ha : Accepts Kind.noticeMask seq payload s) :
    exec (.noticeMask seq payload) s = .next (noticeMaskOwner payload (reqId Kind.noticeMask seq payload s)
      (s.accepted Kind.noticeMask seq payload)) := exec_of_accepts rfl rfl ha

/-- FAULT_READ taken: the selection in the reply, and the state as it was. -/
theorem exec_faultRead_taken (ha : Accepts Kind.faultRead seq payload s) {start : Word} {most : Nat}
    (hp : parseFaultRead payload = some (start, most)) (hm : 1 ≤ most ∧ most ≤ 8) :
    exec (.faultRead seq payload) s = .next (s.answered Kind.faultRead seq payload .ok
      ([byteOf (s.faults.select start most).length, byteOf s.faults.entries.length] ++ bytes32 s.faults.next ++
        (s.faults.select start most).flatMap fun e => e.record.bytes)) := by
  simp only [exec_faultRead ha, faultReadOwner, hp, if_pos hm, queueReply_accepted, accepted_frame]

/-- FAULT_CLEAR taken: the list as `Faults.after` leaves it. -/
theorem exec_faultClear_taken (ha : Accepts Kind.faultClear seq payload s) {upto : Word}
    (hp : parseFaultClear payload = some upto) (hg : s.faults.wasGiven upto = true) :
    exec (.faultClear seq payload) s = .next
      { s.answered Kind.faultClear seq payload .ok
          [byteOf (s.faults.entries.length - (s.faults.after upto).length), byteOf (s.faults.after upto).length] with
        faults := { s.faults with entries := s.faults.after upto } } := by
  simp only [exec_faultClear ha, faultClearOwner, hp, accepted_frame, hg, if_true]
  exact congrArg Host.Outcome.next (queueReply_accepted_notices ..)

/-- NOTICE_MASK taken: the notice unit as `Notices.remask` leaves it. -/
theorem exec_noticeMask_taken {change value : Byte} (ha : Accepts Kind.noticeMask seq [change, value] s)
    (hm : change.toNat < 8 ∧ value.toNat < 8) :
    exec (.noticeMask seq [change, value]) s = .next
      { s.answered Kind.noticeMask seq [change, value] .ok [(s.notices.remask change value).maskByte] with
        notices := s.notices.remask change value
        faults := if (s.notices.remask change value).faultEnabled then s.faults else s.faults.quiet } := by
  simp only [exec_noticeMask ha, noticeMaskOwner, parseNoticeMask, if_pos hm, accepted_frame]
  exact congrArg Host.Outcome.next (queueReply_accepted_notices ..)

end Requests

/-- Settles O44: the selection by age is a stretch of the list, since the ages run down to 0 at its tail. -/
theorem faultRead : Obligations.FaultRead := by
  refine ⟨fun r => ⟨r.presenceWord, r.bytes_eq, r.presenceWord_getLsbD 0, r.presenceWord_getLsbD 1,
    r.presenceWord_getLsbD 2, r.presenceWord_getLsbD 3, r.presenceWord_getLsbD 4, r.presenceWord_getLsbD 5,
    r.presenceWord_getLsbD 6, r.presenceWord_getLsbD 7, r.presenceWord_getLsbD 8, fun k hk => ?_⟩,
    fun seq payload s ha hlaw => ⟨fun hl => ?_, fun start most hp => ⟨fun hm => ?_, ?_⟩⟩⟩
  · exact (r.presenceWord_getLsbD k).trans (List.getD_eq_default _ _ hk)
  · simp only [exec_faultRead ha, faultReadOwner, parseFaultRead_eq_none hl, queueReply_accepted]
  · have hm : ¬(1 ≤ most ∧ most ≤ 8) := by omega
    simp only [exec_faultRead ha, faultReadOwner, hp, if_neg hm, queueReply_accepted]
  · rintro h1 h8 age found rfl hnone hsome
    obtain rfl : found = s.faults.select start most := by
      by_cases hg : s.faults.given = false ∨ 2 ^ 31 ≤ s.faults.age start
      · rw [hnone hg, Faults.select_of_notGiven hg]
      · rw [not_or, Bool.not_eq_false, Nat.not_le] at hg
        obtain ⟨hgiven, hage⟩ := hg
        rw [hsome hgiven hage, (s.faultLaw_iff.mp hlaw).1.select_of_given hgiven hage]
        rfl
    exact exec_faultRead_taken ha hp ⟨h1, h8⟩

/-- Settles O45: the records of the named age and greater are the front of the list. -/
theorem faultClear : Obligations.FaultClear := by
  rintro seq payload s ha hlaw
  refine ⟨fun hl => ?_, ?_⟩
  · simp only [exec_faultClear ha, faultClearOwner, parseFaultClear_eq_none hl, queueReply_accepted]
  · rintro upto hp age rfl
    refine ⟨fun hg => ?_, fun hgiven hage => ?_⟩
    · have hg : s.faults.wasGiven upto = false := (s.faults.wasGiven_eq_false_iff upto).mpr hg
      simp only [exec_faultClear ha, faultClearOwner, hp, accepted_frame, hg, Bool.false_eq_true, if_false,
        queueReply_accepted]
    · have hleft : s.faults.entries.length - (s.faults.entries.length - s.faults.age upto) =
          min s.faults.entries.length (s.faults.age upto) := by omega
      have hgone : s.faults.entries.length - min s.faults.entries.length (s.faults.age upto) =
          s.faults.entries.length - s.faults.age upto := by omega
      rw [exec_faultClear_taken ha hp ((s.faults.wasGiven_iff upto).mpr ⟨hgiven, hage⟩),
        (s.faultLaw_iff.mp hlaw).1.after_eq, List.length_drop, hleft, hgone]
      rfl

/-- Settles O46: the flags one by one as `chooseFlag` takes them. -/
theorem noticeMask : Obligations.NoticeMask := by
  intro seq payload s ha
  refine ⟨fun hl => ?_, ?_⟩
  · simp only [exec_noticeMask ha, noticeMaskOwner, parseNoticeMask_eq_none hl, queueReply_accepted]
  · rintro change value rfl
    refine ⟨fun hm => ?_, ?_⟩
    · have hm : ¬(change.toNat < 8 ∧ value.toNat < 8) := by omega
      simp only [exec_noticeMask ha, noticeMaskOwner, parseNoticeMask, if_neg hm, queueReply_accepted]
    · rintro hc hv slots faults holds rfl rfl rfl
      rw [exec_noticeMask_taken ha ⟨hc, hv⟩, Faults.ite_quiet]
      rfl

end Sys2Proof.Machine

/-! ## The host link's account of its requests: what no owner touches

The link law reads the phase, the reset taken, the low run, the unreplied requests, the reply cache and the receive line.
`SameAccount` says that they stand as they were. -/

namespace Sys2Proof.Machine

set_option Elab.async false

/-! ### The account (R164, R166, R169, R170, R173) -/

/-- What the link law reads stands as it was. -/
def SameAccount (s t : State) : Prop :=
  t.link.phase = s.link.phase ∧ t.link.resetTaken = s.link.resetTaken ∧ t.link.lowRun = s.link.lowRun ∧
  t.link.unreplied = s.link.unreplied ∧ t.link.cache = s.link.cache ∧ t.pins.rxLow = s.pins.rxLow

namespace SameAccount

theorem refl (s : State) : SameAccount s s := ⟨rfl, rfl, rfl, rfl, rfl, rfl⟩

theorem trans {s t u : State} (h : SameAccount s t) (k : SameAccount t u) : SameAccount s u := by
  obtain ⟨h1, h2, h3, h4, h5, h6⟩ := h
  obtain ⟨k1, k2, k3, k4, k5, k6⟩ := k
  exact ⟨k1.trans h1, k2.trans h2, k3.trans h3, k4.trans h4, k5.trans h5, k6.trans h6⟩

theorem settle {s t : State} (h : SameAccount s t) : SameAccount s (settle t) := h

theorem queueReply {s t : State} (h : SameAccount s t) (r : ReqId) (st : Status) (body : List Byte) :
    SameAccount s (queueReply r st body t) := h.trans (by simp [SameAccount])

end SameAccount

/-! ### The owners of the requests (R170) -/

section Owners

variable (p : List Byte) (r : ReqId) (s : State)

theorem windowSetOwner_account : SameAccount s (windowSetOwner p r s) := by
  unfold windowSetOwner
  (repeat' split) <;> simp [SameAccount]

theorem windowClearOwner_account : SameAccount s (windowClearOwner p r s) := by
  unfold windowClearOwner clearWindow
  (repeat' split) <;> simp [SameAccount]

theorem windowGetOwner_account : SameAccount s (windowGetOwner p r s) := by
  unfold windowGetOwner
  (repeat' split) <;> simp [SameAccount]

theorem writePages_pins (first : Nat) (es : List PageEntry) : (writePages first es s).pins = s.pins := by
  rw [writePages_eq]

theorem clearPages_pins (first count : Nat) : (clearPages first count s).pins = s.pins := by
  rw [clearPages_eq]

theorem pageWriteOwner_account : SameAccount s (pageWriteOwner p r s) := by
  unfold pageWriteOwner
  (repeat' split) <;> simp [SameAccount, writePages_pins]

theorem pageReadOwner_account : SameAccount s (pageReadOwner p r s) := by
  unfold pageReadOwner
  (repeat' split) <;> simp [SameAccount]

theorem pageSweepOwner_account : SameAccount s (pageSweepOwner p r s) := by
  unfold pageSweepOwner
  (repeat' split) <;> simp [SameAccount, clearPages_pins]

/-- The owners of the three accesses are one, by start, length and kind. -/
theorem accessOwner_account (o : Option (Word × Nat × XferKind)) : SameAccount s (accessOwner o r s) := by
  unfold accessOwner acceptAccess joinQueue
  (repeat' split) <;> simp [SameAccount]

theorem accessFenceOwner_account : SameAccount s (accessFenceOwner p r s) := by
  unfold accessFenceOwner
  (repeat' split) <;> simp [SameAccount]

theorem accessAbortOwner_account : SameAccount s (accessAbortOwner p r s) := by
  unfold accessAbortOwner abortAt
  (repeat' split) <;> simp [SameAccount, answerAborted, withdrawRequest]

theorem onSlot_account {act : SlotId → ReqId → State → State} (h : ∀ i r s, SameAccount s (act i r s)) :
    SameAccount s (onSlot p act r s) := by
  unfold onSlot
  (repeat' split) <;> first | exact h .. | simp [SameAccount]

theorem enrollSlot_account (i : SlotId) : SameAccount s (enrollSlot i r s) := by
  unfold enrollSlot
  split <;> simp [SameAccount]

theorem resetSlot_account (i : SlotId) : SameAccount s (resetSlot i r s) := by
  unfold resetSlot
  split <;> simp [SameAccount]

theorem offSlot_account (i : SlotId) : SameAccount s (offSlot i r s) := by
  unfold offSlot
  split <;> simp [SameAccount]

theorem onSlotAgain_account (i : SlotId) : SameAccount s (onSlotAgain i r s) := by
  unfold onSlotAgain
  split <;> simp [SameAccount]

theorem holdAcquireOwner_account : SameAccount s (holdAcquireOwner p r s) := by
  unfold holdAcquireOwner
  (repeat' split) <;> simp [SameAccount]

theorem holdCycleOwner_account : SameAccount s (holdCycleOwner p r s) := by
  unfold holdCycleOwner takeCycle
  (repeat' split) <;> simp [SameAccount]

theorem holdReleaseOwner_account : SameAccount s (holdReleaseOwner p r s) := by
  unfold holdReleaseOwner releaseHold
  (repeat' split) <;> simp [SameAccount]

theorem postCreditOwner_account : SameAccount s (postCreditOwner p r s) := by
  unfold postCreditOwner
  (repeat' split) <;> simp [SameAccount]

theorem attentionMaskOwner_account : SameAccount s (attentionMaskOwner p r s) := by
  unfold attentionMaskOwner
  split <;> simp [SameAccount]

theorem faultReadOwner_account : SameAccount s (faultReadOwner p r s) := by
  unfold faultReadOwner
  (repeat' split) <;> simp [SameAccount]

theorem faultClearOwner_account : SameAccount s (faultClearOwner p r s) := by
  unfold faultClearOwner
  (repeat' split) <;> simp [SameAccount]

theorem noticeMaskOwner_account : SameAccount s (noticeMaskOwner p r s) := by
  unfold noticeMaskOwner
  (repeat' split) <;> simp [SameAccount]

theorem echoOwner_account : SameAccount s (echoOwner p r s) := by
  unfold echoOwner
  split <;> simp [SameAccount]

theorem configGetOwner_account : SameAccount s (configGetOwner p r s) := by
  unfold configGetOwner
  split <;> simp [SameAccount]

theorem configSetOwner_account : SameAccount s (configSetOwner p r s) := by
  unfold configSetOwner
  (repeat' split) <;> simp [SameAccount, setParams]

theorem bridgeResetOwner_account : SameAccount s (bridgeResetOwner p r s) := by
  unfold bridgeResetOwner
  split <;> simp [SameAccount]

end Owners

theorem ite_account {c : Prop} [Decidable c] {f g : ReqId → State → State} (hf : ∀ r s, SameAccount s (f r s))
    (hg : ∀ r s, SameAccount s (g r s)) : ∀ r s, SameAccount s ((if c then f else g) r s) := by
  split <;> assumption

theorem ownerOf_account (kind : Byte) (p : List Byte) : ∀ r s, SameAccount s (ownerOf kind p r s) := by
  refine ite_account (windowSetOwner_account p) ?_
  refine ite_account (windowClearOwner_account p) ?_
  refine ite_account (windowGetOwner_account p) ?_
  refine ite_account (pageWriteOwner_account p) ?_
  refine ite_account (pageReadOwner_account p) ?_
  refine ite_account (pageSweepOwner_account p) ?_
  refine ite_account (fun r s => (accessReadOwner_eq p r s ▸ accessOwner_account r s _).settle) ?_
  refine ite_account (fun r s => (accessWriteOwner_eq p r s ▸ accessOwner_account r s _).settle) ?_
  refine ite_account (fun r s => (accessSwapOwner_eq p r s ▸ accessOwner_account r s _).settle) ?_
  refine ite_account (fun r s => (accessFenceOwner_account p r s).settle) ?_
  refine ite_account (fun r s => (accessAbortOwner_account p r s).settle) ?_
  refine ite_account (fun r s => onSlot_account p r s fun _ _ _ => (SameAccount.refl _).queueReply ..) ?_
  refine ite_account (fun r s => onSlot_account p r s fun i r s => enrollSlot_account r s i) ?_
  refine ite_account (fun r s => onSlot_account p r s fun i r s => resetSlot_account r s i) ?_
  refine ite_account (fun r s => onSlot_account p r s fun i r s => offSlot_account r s i) ?_
  refine ite_account (fun r s => onSlot_account p r s fun i r s => onSlotAgain_account r s i) ?_
  refine ite_account (fun r s => (holdAcquireOwner_account p r s).settle) ?_
  refine ite_account (holdCycleOwner_account p) ?_
  refine ite_account (fun r s => (holdReleaseOwner_account p r s).settle) ?_
  refine ite_account (postCreditOwner_account p) ?_
  refine ite_account (attentionMaskOwner_account p) ?_
  refine ite_account (faultReadOwner_account p) ?_
  refine ite_account (faultClearOwner_account p) ?_
  refine ite_account (noticeMaskOwner_account p) ?_
  refine ite_account (echoOwner_account p) ?_
  refine ite_account (configGetOwner_account p) ?_
  refine ite_account (configSetOwner_account p) ?_
  refine ite_account (bridgeResetOwner_account p) ?_
  exact fun r s => (SameAccount.refl s).queueReply ..
end Sys2Proof.Machine


/-! ## The last byte of a frame, and the bridge reset: the rules -/

namespace Sys2Proof.Machine

set_option Elab.async false

/-! ### FRAME_SENT by the source of the frame (R174) -/

/-- The state with no frame on the transmit line. -/
def State.lineIdle (s : State) : State := { s with link := { s.link with transmitter := none } }

section Sent

variable {s : State} {f : Frame}

theorem exec_frameSent_of_idle (h : s.link.transmitter = none) : exec .frameSent s = .next s := by
  simp only [exec, execFrameSent, h]

theorem exec_frameSent_reply {r : Reply} (h : s.link.transmitter = some (f, .reply r)) :
    exec .frameSent s = .next (settle (replySent r s.lineIdle)) := by
  simp only [exec, execFrameSent, h]
  rfl

theorem exec_frameSent_post (h : s.link.transmitter = some (f, .post)) :
    exec .frameSent s = .next (settle (postSent s.lineIdle)) := by
  simp only [exec, execFrameSent, h]
  rfl

/-- The last byte of a frame that is neither a reply nor a POST leaves the transmitter idle and no more. -/
theorem exec_frameSent_other {src : FrameSource} (h : s.link.transmitter = some (f, src))
    (hr : ∀ r, src ≠ .reply r) (hp : src ≠ .post) : exec .frameSent s = .next (settle s.lineIdle) := by
  simp only [exec, execFrameSent, h]
  cases src with
  | reply r => exact absurd rfl (hr r)
  | post => exact absurd rfl hp
  | _ => rfl

/-! ### Replies sent (R170, R173, R178) -/

theorem replySent_resend {r : Reply} (h : r.resend = true) (s : State) : replySent r s = s := by
  rw [replySent, if_pos h]

/-- The link once a reply of its own has been sent: its request is unreplied no more, and the reply is cached, whose
oldest entry makes room (R170, R173). -/
def Link.replied (l : Link) (r : Reply) : Link :=
  { l with unreplied := l.unreplied.filter fun q => q.seq ≠ r.seq }.cacheReply r

theorem replySent_own {r : Reply} (h : r.resend = false) (hk : ¬(r.kind = Kind.bridgeReset ∧ r.status = .ok))
    (s : State) : replySent r s = { s with link := s.link.replied r } := by
  simp only [replySent, h, Bool.false_eq_true, if_false, if_neg hk]
  rfl

theorem replySent_reset {r : Reply} (h : r.resend = false) (hk : r.kind = Kind.bridgeReset ∧ r.status = .ok)
    (s : State) : replySent r s = takeReset { s with link := s.link.replied r } := by
  simp only [replySent, h, Bool.false_eq_true, if_false, if_pos hk]
  rfl

/-- The reply cache once a reply has been sent (R173). -/
theorem Link.replied_eq {l : Link} {r : Reply} {others : List CacheEntry}
    (ho : others = l.cache.filter fun e => e.seq ≠ r.seq) :
    l.replied r = { l with
      unreplied := l.unreplied.filter fun q => q.seq ≠ r.seq
      cache := (if 8 ≤ others.length then others.drop 1 else others) ++
        [{ seq := r.seq, kind := r.kind, crc := r.crc, status := r.status, body := r.body }] } := by
  subst ho
  rw [List.drop_one]
  rfl

/-! ### Posts sent (R137, R146) -/

theorem hasRoom_iff_free (b : Inbound) (n : Nat) :
    b.hasRoom n = true ↔
      b.posts.length < 32 ∧ n ≤ 8192 - (b.posts.map fun q => q.body.length).sum - b.reserved := by
  rw [Inbound.hasRoom, Bool.and_eq_true, decide_eq_true_iff, decide_eq_true_iff]
  rfl

/-- What a room wait of `n` bytes becomes at a room event. -/
theorem roomEvent_roomWait (s : State) (i : SlotId) :
    (roomEvent s).inb.roomWait[i] =
      (s.inb.roomWait[i]).bind fun n => if s.inb.hasRoom n then none else some n := by
  have h : (roomEvent s).inb.roomWait[i] =
      (match s.inb.roomWait[i] with
       | some n => if s.inb.hasRoom n then none else some n
       | none => none) := Vector.getElem_map ..
  rw [h]
  cases s.inb.roomWait[i] <;> rfl

end Sent

/-! ### The taking of a bridge reset (R3, R20, R61, R125, R178) -/

/-- Where nobody waits no choice stands (R74, R75). -/
theorem settle_choice_of_nobody {s : State} (h : wanted s = {}) : (settle s).arb.choice = none := by
  show standingChoice s.arb.holder s.arb.choice (wanted s) _ _ = none
  have hw : ∀ r, Waiting.has {} r = false := fun r => by cases r <;> rfl
  rw [h]
  cases s.arb.holder with
  | some r => rfl
  | none =>
    cases s.arb.choice with
    | none => rfl
    | some r => exact if_neg (by simp [hw r])

theorem Hold.takeReset_of_pending {h : Hold} (hs : h.state = .pending) :
    h.takeReset = { h with state := .idle, acquire := none, limit := none } := by
  rw [Hold.takeReset, hs]

/-! ### The completion of a bridge reset (R81, R111, R125, R131, R153, R162, R178) -/

section Completion

variable (s : State)

theorem exec_bridgeResetComplete_due (h : s.link.resetTaken = true) (ht : s.ctrl.tx = none) (hp : s.xfer.pair = none) :
    exec .bridgeResetComplete s = .next (settle (completeReset s)) := by
  simp [exec, execBridgeResetComplete, h, ht, hp]

theorem exec_bridgeResetComplete_not_due (h : s.link.resetTaken = false ∨ s.ctrl.tx ≠ none ∨ s.xfer.pair ≠ none) :
    exec .bridgeResetComplete s = .next s := by
  refine congrArg Host.Outcome.next (if_neg ?_)
  simp only [Option.isNone_iff_eq_none]
  rintro ⟨hr, ht, hp⟩
  simp [hr, ht, hp] at h

/-- The completion, block by block. -/
theorem completeReset_eq :
    completeReset s = { s with
      arb := {}, hold := {}, inb := { nextNumber := s.inb.nextNumber }, faults := { s.faults with entries := [] }
      sup := { slots := s.sup.slots.map fun r => r.completeReset s.params, work := [] }
      notices := { s.notices with holdEnd := none, slotPending :=
        if s.notices.slotEnabled = true then Vector.replicate 16 true else s.notices.slotPending }
      link := s.link.completeReset, modules := Vector.replicate 16 .unlocked } := by
  rw [completeReset, noteAllSlots_eq]
  rfl

theorem completeReset_slot (i : SlotId) : (completeReset s).slot i = (s.slot i).completeReset s.params := by
  rw [completeReset_eq]
  exact Vector.getElem_map ..

theorem Link.completeReset_eq (l : Link) :
    l.completeReset = { l with
      resetTaken := false, phase := if l.phase = .brk then .brk else .opened
      linkUp := if l.linkUp = some .powerOn then some .powerOn else some .bridge } := by
  have hm : some (mergeReset l.linkUp .bridge) = if l.linkUp = some .powerOn then some .powerOn else some .bridge := by
    cases hl : l.linkUp with
    | none => rfl
    | some k => cases k <;> rfl
  rw [← hm]
  rfl

/-- With an empty transfer queue nobody waits once a bridge reset has completed: no slot is ACTIVE or LAGGING. -/
theorem wanted_completeReset (h : s.xfer.queue = []) : wanted (completeReset s) = {} := by
  have hs : ∀ i, ((completeReset s).slot i).state.inService = false := fun i => by
    rw [completeReset_slot, Slot.completeReset]
    split
    · next ho => simp [ho, SlotState.inService]
    · rfl
  have he : anyEligible (completeReset s) = false := by
    rw [Bool.eq_false_iff, ne_eq, anyEligible_iff]
    rintro ⟨i, hi⟩
    simp [eligible, hs] at hi
  have hq : headQueued (completeReset s) = false := by simp [headQueued, h]
  have ha : (completeReset s).arb = {} ∧ (completeReset s).hold = {} ∧ (completeReset s).sup.work = [] ∧
      (completeReset s).inb.service = none ∧ (completeReset s).link.resetTaken = false := by
    rw [completeReset_eq]
    exact ⟨rfl, rfl, rfl, rfl, rfl⟩
  obtain ⟨harb, hhold, hwork, hservice, hreset⟩ := ha
  rw [wanted_of_no_reset hreset, harb, hhold, hwork, hservice, he, hq]
  rfl

end Completion

end Sys2Proof.Machine

/-! ## The law of the host link: every command -/

namespace Sys2Proof.Machine

set_option Elab.async false

/-! ### What keeps the law -/

/-- The link law passes from one state to another. -/
def KeepsLink (s t : State) : Prop := s.LinkLaw → t.LinkLaw

theorem SameAccount.keepsLink {s t : State} (h : SameAccount s t) : KeepsLink s t := by
  obtain ⟨hphase, hreset, hrun, hunreplied, hcache, hlow⟩ := h
  intro hs
  constructor
  · rw [hunreplied]; exact hs.unreplied
  · rw [hunreplied]; exact hs.seqs
  · rw [hcache]; exact hs.cache
  · rw [hcache]; exact hs.cacheSeqs
  · rw [hphase, hreset]; exact hs.waits
  · rw [hphase, hreset]; exact hs.shut
  · rw [hphase, hlow]; exact hs.low
  · rw [hrun]; exact hs.run
  · rw [hphase, hrun]; exact hs.broken

section Link

variable {s : State}

/-- With no request unreplied and no reply cached the law asks of the phase, the reset taken, the low run and the receive
line alone. -/
theorem State.LinkLaw.of_empty {t : State} (hu : t.link.unreplied = []) (hc : t.link.cache = [])
    (hw : t.link.phase = .resetWait → t.link.resetTaken = true) (hs : t.link.resetTaken = true → t.link.phase ≠ .opened)
    (hl : t.link.phase = .brk ↔ t.pins.rxLow = true) (hr : t.link.lowRun < Config.breakTimes)
    (hb : t.link.phase = .brk → t.link.lowRun = 0) : t.LinkLaw :=
  ⟨by simp [hu], by simp [hu], by simp [hc], by simp [hc], hw, hs, hl, hr, hb⟩

/-- The law goes on where the phase, the reset taken, the low run and the receive line stand as they were, from what it
asks of the unreplied requests and of the cache. -/
theorem State.LinkLaw.with_requests (h : s.LinkLaw) {l : Link} (hp : l.phase = s.link.phase)
    (ht : l.resetTaken = s.link.resetTaken) (hr : l.lowRun = s.link.lowRun)
    (hu : l.unreplied.length ≤ Config.unrepliedRequests ∧ (l.unreplied.map ReqId.seq).Nodup)
    (hc : l.cache.length ≤ Config.cacheEntries ∧ (l.cache.map CacheEntry.seq).Nodup) :
    State.LinkLaw { s with link := l } := by
  obtain ⟨hul, hus⟩ := hu
  obtain ⟨hcl, hcs⟩ := hc
  refine ⟨hul, hus, hcl, hcs, ?_, ?_, ?_, ?_, ?_⟩ <;> dsimp only
  · rw [hp, ht]; exact h.waits
  · rw [hp, ht]; exact h.shut
  · rw [hp]; exact h.low
  · rw [hr]; exact h.run
  · rw [hp, hr]; exact h.broken

/-! ### The receipt of a request (R169, R170, R173) -/

/-- Cache entries that leave leave the cache lawful. -/
theorem State.LinkLaw.cache_filter (h : s.LinkLaw) (p : CacheEntry → Bool) :
    (s.link.cache.filter p).length ≤ Config.cacheEntries ∧ ((s.link.cache.filter p).map CacheEntry.seq).Nodup :=
  ⟨(List.length_filter_le ..).trans h.cache, h.cacheSeqs.sublist (List.filter_sublist.map _)⟩

/-- What `examine` accepts has room and a sequence of its own among the unreplied (R170). -/
theorem room_of_accepted {kind seq : Byte} {crc : BitVec 16} {l : Link} (h : examine kind seq crc l = .accepted) :
    l.unreplied.length < Config.unrepliedRequests ∧ ∀ q ∈ l.unreplied, q.seq ≠ seq := by
  unfold examine at h
  split at h
  · cases h
  · split at h
    · cases h
    · split at h
      · cases h
      · next hu =>
        split at h
        · cases h
        · next hl => exact ⟨Nat.lt_of_not_le hl, by simpa using hu⟩

/-- An accepted request is the youngest of the unreplied, and only its sequence leaves the cache (R169, R170). -/
theorem State.LinkLaw.accept (h : s.LinkLaw) {r : ReqId} (hl : s.link.unreplied.length < Config.unrepliedRequests)
    (hn : ∀ q ∈ s.link.unreplied, q.seq ≠ r.seq) : State.LinkLaw { s with link := s.link.accept r } := by
  refine h.with_requests rfl rfl rfl ⟨?_, ?_⟩ (h.cache_filter _)
  · show (s.link.unreplied ++ [r]).length ≤ _
    rw [List.length_append]
    exact hl
  · show ((s.link.unreplied ++ [r]).map ReqId.seq).Nodup
    rw [List.map_append, List.nodup_append]
    refine ⟨h.seqs, List.nodup_singleton _, ?_⟩
    simpa using hn

theorem resend_account (s : State) (e : CacheEntry) : SameAccount s { s with link := s.link.resend e } := by
  unfold Link.resend
  split <;> exact .refl s

theorem handOn_keepsLink (kind seq : Byte) (payload : List Byte) (s : State) :
    KeepsLink s (handOn kind seq payload (ownerOf kind payload) s) := by
  intro h
  unfold handOn
  dsimp only
  split
  · exact h
  · exact (resend_account ..).keepsLink h
  · exact h.with_requests rfl rfl rfl ⟨h.unreplied, h.seqs⟩ (h.cache_filter _)
  · next hx =>
    obtain ⟨hl, hn⟩ := room_of_accepted hx
    exact (ownerOf_account ..).keepsLink (h.accept hl hn)

/-! ### Resets, breaks and the receive line (R166, R168, R177, R178) -/

theorem State.LinkLaw.of_reset (h : s.LinkLaw) : (takeReset s).LinkLaw := by
  refine .of_empty rfl rfl (fun _ => rfl) (fun _ => ?_) (Iff.trans ?_ h.low) h.run (fun hb => h.broken ?_)
  · show (if s.link.phase = .brk then LinkPhase.brk else .resetWait) ≠ .opened
    split <;> simp
  · show (if s.link.phase = .brk then LinkPhase.brk else .resetWait) = .brk ↔ _
    split <;> simp [*]
  · by_contra hne
    simp [takeReset, Link.takeReset, hne] at hb

theorem State.LinkLaw.of_break (s : State) : (beginBreak s).LinkLaw := by
  have hp : (beginBreak s).pins.rxLow = true := by rw [beginBreak_blocks]; rfl
  apply State.LinkLaw.of_empty <;> simp [beginBreak_link, hp, Config.breakTimes]

theorem State.LinkLaw.of_endBreak (h : s.LinkLaw) : (endBreak s).LinkLaw := by
  refine ⟨h.unreplied, h.seqs, h.cache, h.cacheSeqs, ?_, ?_, ?_, h.run, ?_⟩ <;>
    cases hr : s.link.resetTaken <;> simp [endBreak, hr]

theorem State.LinkLaw.with_lowRun (h : s.LinkLaw) (hp : s.link.phase ≠ .brk) {run : Nat}
    (hr : run < Config.breakTimes) : (s.withLowRun run).LinkLaw :=
  ⟨h.unreplied, h.seqs, h.cache, h.cacheSeqs, h.waits, h.shut, h.low, hr, fun hb => absurd hb hp⟩

theorem State.LinkLaw.with_framer (h : s.LinkLaw) (f : Framer) : (s.withFramer f).LinkLaw :=
  SameAccount.keepsLink (.refl s) h

theorem State.LinkLaw.settled (h : s.LinkLaw) : (settle s).LinkLaw := (SameAccount.refl s).settle.keepsLink h

theorem State.LinkLaw.after_passOn (q : RxRequest) (s : State) (h : s.LinkLaw) : (passOn q s).LinkLaw :=
  handOn_keepsLink q.kind q.seq q.payload s h

theorem hearLevels_keepsLink (cs : List LineChar) (heard : List RxChar) (s : State) :
    KeepsLink s (hearLevels cs heard s) :=
  hearLevels_keeps (P := State.LinkLaw) (fun f _ h => h.with_framer f) .after_passOn
    (fun _ _ h hp hr => h.with_lowRun hp hr) (fun s _ _ => (State.LinkLaw.of_break s).settled)
    (fun _ h _ => h.of_endBreak) cs heard

theorem onRequest_keepsLink (kind seq : Byte) (payload : List Byte) (s : State) :
    KeepsLink s (onRequest kind seq payload (ownerOf kind payload) s) :=
  onRequest_keeps (P := State.LinkLaw) (fun f _ h => h.with_framer f) .after_passOn
    (fun _ _ h hp hr => h.with_lowRun hp hr) (fun s _ _ => (State.LinkLaw.of_break s).settled) (fun _ h _ => h.of_endBreak)
    (handOn_keepsLink kind seq payload)

/-! ### The last byte of a reply, and the completion of a bridge reset (R170, R173, R178) -/

/-- A cache with room for one more entry: the oldest has made way (R173). -/
theorem cache_makeRoom {others : List CacheEntry} (h : others.length ≤ Config.cacheEntries) :
    (if Config.cacheEntries ≤ others.length then others.tail else others).length < Config.cacheEntries := by
  split
  · rw [List.length_tail]
    unfold Config.cacheEntries at *
    omega
  · next hlt => exact Nat.lt_of_not_le hlt

/-- A reply sent leaves the account lawful: its request is unreplied no more, and the cache takes its entry in the place
of one of its sequence, or of the oldest (R170, R173). -/
theorem State.LinkLaw.replied (h : s.LinkLaw) (r : Reply) : State.LinkLaw { s with link := s.link.replied r } := by
  refine h.with_requests rfl rfl rfl
    ⟨(List.length_filter_le ..).trans h.unreplied, h.seqs.sublist (List.filter_sublist.map _)⟩ ?_
  obtain ⟨hl, hn⟩ := h.cache_filter fun e => e.seq ≠ r.seq
  have hne : ∀ e ∈ s.link.cache.filter (fun e => e.seq ≠ r.seq), e.seq ≠ r.seq := fun e he => by
    simpa using (List.mem_filter.mp he).2
  unfold Link.replied Link.cacheReply
  dsimp only
  generalize s.link.cache.filter (fun e => e.seq ≠ r.seq) = others at hl hn hne
  have hroom := cache_makeRoom hl
  have hsub : (if Config.cacheEntries ≤ others.length then others.tail else others).Sublist others := by
    split
    · exact others.tail_sublist
    · exact .refl _
  generalize (if Config.cacheEntries ≤ others.length then others.tail else others) = kept at hsub hroom
  refine ⟨?_, ?_⟩
  · rw [List.length_append]
    exact hroom
  · rw [List.map_append, List.nodup_append]
    refine ⟨hn.sublist (hsub.map _), List.nodup_singleton _, ?_⟩
    simpa using fun e he => hne e (hsub.subset he)

theorem replySent_keepsLink (r : Reply) (s : State) : KeepsLink s (replySent r s) := by
  intro h
  cases hr : r.resend with
  | true => exact (replySent_resend hr s).symm ▸ h
  | false =>
    by_cases hk : r.kind = Kind.bridgeReset ∧ r.status = .ok
    · exact (replySent_reset hr hk s).symm ▸ (h.replied r).of_reset
    · exact (replySent_own hr hk s).symm ▸ h.replied r

theorem exec_frameSent_keepsLink {t : State} (h : exec .frameSent s = .next t) : KeepsLink s t := by
  intro hs
  have hl : s.lineIdle.LinkLaw := SameAccount.keepsLink (.refl s) hs
  cases ht : s.link.transmitter with
  | none =>
    cases (exec_frameSent_of_idle ht).symm.trans h
    exact hs
  | some line =>
    obtain ⟨f, src⟩ := line
    cases src with
    | reply r =>
      cases (exec_frameSent_reply ht).symm.trans h
      exact (replySent_keepsLink r _ hl).settled
    | post =>
      cases (exec_frameSent_post ht).symm.trans h
      exact SameAccount.keepsLink (SameAccount.settle (by simp [SameAccount])) hl
    | _ =>
      cases (exec_frameSent_other ht (by simp) (by simp)).symm.trans h
      exact hl.settled

theorem completeReset_link (s : State) : (completeReset s).link = s.link.completeReset := by
  rw [completeReset_eq]

theorem completeReset_keepsLink (s : State) : KeepsLink s (completeReset s) := by
  intro h
  refine ⟨?_, ?_, ?_, ?_, ?_, ?_, ?_, ?_, ?_⟩ <;>
    simp only [completeReset_link, completeReset_frame, Link.completeReset_eq]
  · exact h.unreplied
  · exact h.seqs
  · exact h.cache
  · exact h.cacheSeqs
  · split <;> simp
  · simp
  · rw [← h.low]
    split <;> simp [*]
  · exact h.run
  · split
    · next hb => exact fun _ => h.broken hb
    · simp

/-! ### The events that leave the account as it was -/

section Events

variable (s)

theorem execTransferGrant_account {t : State} (h : execTransferGrant s = .next t) : SameAccount s t := by
  cases h
  split
  · refine SameAccount.settle ?_
    split <;> simp [SameAccount]
  · exact .refl s

theorem execSuperviseGrant_account {t : State} (h : execSuperviseGrant s = .next t) : SameAccount s t := by
  cases h
  split
  · refine SameAccount.settle ?_
    dsimp only
    (repeat' split) <;> simp [SameAccount]
  · exact .refl s

theorem execInboundGrant_account {t : State} (h : execInboundGrant s = .next t) : SameAccount s t := by
  cases h
  split
  · refine SameAccount.settle ?_
    (repeat' split) <;> simp [SameAccount]
  · exact .refl s

theorem execHoldGrant_account {t : State} (h : execHoldGrant s = .next t) : SameAccount s t := by
  cases h
  split <;> simp [SameAccount]

theorem execRequestDriven_account {t : State} (h : execRequestDriven s = .next t) : SameAccount s t := by
  cases h
  (repeat' split) <;> simp [SameAccount]

theorem execResponseCodeArrives_account {code : ResponseCode} {good : Bool} {t : State}
    (h : execResponseCodeArrives code good s = .next t) : SameAccount s t := by
  cases h
  split
  · split
    · refine SameAccount.settle ?_
      split
      · simp [SameAccount]
      · split <;> simp [SameAccount]
    · exact .refl s
  · exact .refl s

theorem execReadDataWordArrives_account {word : Word} {parity : BitVec 4} {t : State}
    (h : execReadDataWordArrives word parity s = .next t) : SameAccount s t := by
  cases h
  split
  · split
    · refine SameAccount.settle ?_
      (repeat' split) <;> simp [SameAccount]
    · exact .refl s
  · exact .refl s

theorem execResponseTimerExpiry_account {t : State} (h : execResponseTimerExpiry s = .next t) : SameAccount s t := by
  cases h
  split
  · split
    · refine SameAccount.settle ?_
      split <;> simp [SameAccount]
    · exact .refl s
  · exact .refl s

theorem execRetryDelayExpiry_account {t : State} (h : execRetryDelayExpiry s = .next t) : SameAccount s t := by
  cases h
  (repeat' split) <;> simp [SameAccount]

theorem execSwapResendDelayExpiry_account {t : State} (h : execSwapResendDelayExpiry s = .next t) :
    SameAccount s t := by
  cases h
  (repeat' split) <;> simp [SameAccount]

theorem execPresenceActive_account {i : SlotId} {t : State} (h : execPresenceActive i s = .next t) :
    SameAccount s t := by
  cases h
  dsimp only
  (repeat' split) <;> simp [SameAccount, setPresence]

theorem execPresenceInactive_account {i : SlotId} {t : State} (h : execPresenceInactive i s = .next t) :
    SameAccount s t := by
  cases h
  split <;> simp [SameAccount, setPresence]

end Events

/-! ### Every command -/

theorem execPowerOn_linkLaw {pins : PowerPins} {t : State} (h : execPowerOn pins s = .next t) : t.LinkLaw := by
  cases h
  apply State.LinkLaw.of_empty rfl rfl <;> cases pins.rxLow <;> simp [State.reset, Config.breakTimes]

theorem exec_keepsLink (c : Instr) (s : State) {t : State} (h : exec c s = .next t) : KeepsLink s t := by
  cases hr : c.request with
  | some q =>
    obtain ⟨kind, seq, payload⟩ := q
    rw [exec_request hr] at h
    cases h
    split
    · exact onRequest_keepsLink kind seq payload s
    · exact id
  | none =>
    cases c with
    | powerOn pins => exact fun _ => execPowerOn_linkLaw h
    | breakBegin => cases h; split; exacts [id, fun _ => (State.LinkLaw.of_break s).settled]
    | breakEnd => cases h; split; exacts [State.LinkLaw.of_endBreak, id]
    | frameDiscard chars => cases h; exact hearLevels_keepsLink chars [] s
    | frameSent => exact exec_frameSent_keepsLink h
    | bridgeResetComplete =>
      cases h; split; exacts [fun hs => (completeReset_keepsLink s hs).settled, id]
    | transferGrant => exact (execTransferGrant_account s h).keepsLink
    | superviseGrant => exact (execSuperviseGrant_account s h).keepsLink
    | inboundGrant => exact (execInboundGrant_account s h).keepsLink
    | holdGrant => exact (execHoldGrant_account s h).keepsLink
    | requestDriven => exact (execRequestDriven_account s h).keepsLink
    | responseCodeArrives code good => exact (execResponseCodeArrives_account s h).keepsLink
    | readDataWordArrives word parity => exact (execReadDataWordArrives_account s h).keepsLink
    | responseTimerExpiry => exact (execResponseTimerExpiry_account s h).keepsLink
    | retryDelayExpiry => exact (execRetryDelayExpiry_account s h).keepsLink
    | swapResendDelayExpiry => exact (execSwapResendDelayExpiry_account s h).keepsLink
    | presenceActive i => exact (execPresenceActive_account s h).keepsLink
    | presenceInactive i => exact (execPresenceInactive_account s h).keepsLink
    | outputFrameBegin => cases h; exact SameAccount.keepsLink (by split <;> simp [SameAccount])
    | settleTimerExpiry i => cases h; exact SameAccount.keepsLink (by (repeat' split) <;> simp [SameAccount])
    | attemptGapExpiry i => cases h; exact SameAccount.keepsLink (by split <;> simp [SameAccount])
    | checkTimerExpiry i => cases h; exact SameAccount.keepsLink (by split <;> simp [SameAccount])
    | pulseTimerExpiry i => cases h; exact SameAccount.keepsLink (by split <;> simp [SameAccount])
    | limitTimerExpiry => cases h; exact SameAccount.keepsLink (by split <;> simp [SameAccount])
    | backOffExpiry i => cases h; exact SameAccount.keepsLink (by split <;> simp [SameAccount])
    | holdEnds => cases h; exact SameAccount.keepsLink (by split <;> simp [SameAccount])
    | windowDrainEnd w => cases h; exact SameAccount.keepsLink (by simp [SameAccount])
    | fenceAtHead => cases h; exact SameAccount.keepsLink (by simp [SameAccount])
    | stampTick => cases h; exact SameAccount.keepsLink (.refl s)
    | attentionChange i level => cases h; exact SameAccount.keepsLink (.refl s)
    | _ => cases hr

end Link

/-- Settles O56: a step runs the front command, and every command keeps the law. -/
theorem linkLawKept : Obligations.LinkLawKept := by
  intro s t hs h
  unfold step at h
  split at h
  · next c rest _ =>
    have hp : SameAccount s { s with pending := rest } := .refl s
    exact exec_keepsLink c _ h (hp.keepsLink hs)
  · cases h
    exact hs

end Sys2Proof.Machine


/-! ## The examination of requests, and the link's own requests: ECHO, CONFIG_GET, BRIDGE_RESET and unknown kinds -/

namespace Sys2Proof.Machine

set_option Elab.async false

/-! ### The examination of a good request frame (R168, R169, R173) -/

section Examination

variable {c : Instr} {kind seq : Byte} {payload : List Byte} {s : State}

/-- A request the part can receive: a payload a frame can hold, and a kind code of its own. -/
theorem wf_iff_of_request (hr : c.request = some (kind, seq, payload)) :
    c.wf = true ↔ payload.length ≤ Config.payloadBytes ∧ c.kindGood = true := by
  simp [Instr.wf, hr]

/-- In HUNT, with the line high before it, a request's command is its examination. -/
theorem exec_of_hunt (hw : c.wf = true) (hr : c.request = some (kind, seq, payload)) (hp : s.link.phase ≠ .brk)
    (hf : s.link.framer = .hunt) (hl : s.link.lowRun = 0) :
    exec c s = .next (handOn kind seq payload (ownerOf kind payload) s) := by
  obtain ⟨hlen, hk⟩ := (wf_iff_of_request hr).mp hw
  rw [exec_request hr, if_pos hk, onRequest_of_hunt hp hf hl hlen]

/-- A copy of a cached reply that waits already does not join the queue again (R173). -/
theorem resend_of_waiting {l : Link} {e : CacheEntry}
    (h : ∃ r ∈ l.replies, r.resend = true ∧ r.seq = e.seq ∧ r.kind = e.kind ∧ r.crc = e.crc) : l.resend e = l := by
  rw [Link.resend, if_pos (by simpa using h)]

theorem resend_of_new {l : Link} {e : CacheEntry}
    (h : ∀ r ∈ l.replies, ¬(r.resend = true ∧ r.seq = e.seq ∧ r.kind = e.kind ∧ r.crc = e.crc)) :
    l.resend e = { l with replies := l.replies ++
      [{ seq := e.seq, kind := e.kind, crc := e.crc, status := e.status, body := e.body, resend := true }] } := by
  rw [Link.resend, if_neg (by simpa using h)]

end Examination

/-- Settles O2: each line of R169 by the examination that `exec_of_hunt` leads to; what an accepted request's owner does
leaves the account of it. -/
theorem requestExamination : Obligations.RequestExamination := by
  intro c kind seq payload s hw hr hf hl
  obtain ⟨hlen, hk⟩ := (wf_iff_of_request hr).mp hw
  refine ⟨fun hp => ?_, fun hp => ⟨fun e he => ?_, fun hfresh => ⟨fun hu => ?_, fun hu hfull => ?_, fun hu hroom => ?_⟩⟩⟩
  · rw [exec_of_hunt hw hr (by simp [hp]) hf hl, handOn_of_not_opened (by simp [hp])]
  · rw [exec_of_hunt hw hr (by simp [hp]) hf hl, handOn_of_cached hp he]
    exact ⟨fun h => by rw [resend_of_waiting h], fun h => by rw [resend_of_new h]⟩
  · rw [exec_of_hunt hw hr (by simp [hp]) hf hl, handOn_of_unreplied hp hfresh hu]
  · rw [exec_of_hunt hw hr (by simp [hp]) hf hl, handOn_of_overload hp hfresh hu hfull]
  · obtain ⟨-, -, -, hunreplied, hcache, -⟩ :=
      ownerOf_account kind payload (reqId kind seq payload s) (s.accepted kind seq payload)
    exact ⟨_, exec_of_accepts hr hk ⟨hp, hf, hl, hlen, hfresh, hu, hroom⟩, hunreplied, hcache⟩

/-! ### ECHO, CONFIG_GET, BRIDGE_RESET and unknown kinds (R170, R178-R180) -/

section Requests

variable {seq : Byte} {payload : List Byte} {s : State}

theorem exec_echo (ha : Accepts Kind.echo seq payload s) :
    exec (.echo seq payload) s = .next (echoOwner payload (reqId Kind.echo seq payload s)
      (s.accepted Kind.echo seq payload)) := exec_of_accepts rfl rfl ha

theorem exec_configGet (ha : Accepts Kind.configGet seq payload s) :
    exec (.configGet seq payload) s = .next (configGetOwner payload (reqId Kind.configGet seq payload s)
      (s.accepted Kind.configGet seq payload)) := exec_of_accepts rfl rfl ha

theorem exec_bridgeReset (ha : Accepts Kind.bridgeReset seq payload s) :
    exec (.bridgeReset seq payload) s = .next (bridgeResetOwner payload (reqId Kind.bridgeReset seq payload s)
      (s.accepted Kind.bridgeReset seq payload)) := exec_of_accepts rfl rfl ha

end Requests

/-- The value of AUTO_ENROLL in a reply. -/
theorem countBytes_flag (b : Bool) : countBytes (if b then 1 else 0) = if b = true then [1, 0] else [0, 0] := by
  cases b <;> rfl

/-- The parameters of a CONFIG_GET reply, in the order of the parameter table (R180). -/
theorem configEntries_eq (p : Params) :
    allParams.flatMap p.entry =
      [0x01] ++ countBytes p.responseTimeout ++ [0x02] ++ countBytes p.retryLimit ++
      [0x03] ++ countBytes p.retryDelay ++ [0x04] ++ countBytes p.inboundTurn ++
      [0x05] ++ countBytes p.settleTime ++ [0x06] ++ (if p.autoEnroll = true then [1, 0] else [0, 0]) ++
      [0x07] ++ countBytes p.enrollAttempts ++ [0x08] ++ countBytes p.checkInterval ++
      [0x09] ++ countBytes p.skipAllowance ++ [0x0A] ++ countBytes p.lagLimit ++
      [0x0B] ++ countBytes p.silenceLimit ++ [0x0C] ++ countBytes p.slotResetPulse ++
      [0x0D] ++ countBytes p.holdLimit := by
  simp [allParams, Params.entry, Params.get, ParamId.code, countBytes_flag]

/-- Settles O47: the owners by the payload's length, and the parameters entry by entry. -/
theorem echoAndConfigGet : Obligations.EchoAndConfigGet := by
  refine fun seq payload s => ⟨fun ha => ⟨fun hl => ?_, fun hl => ?_⟩, fun ha => ⟨fun hp => ?_, fun hp => ?_⟩⟩
  · rw [exec_echo ha, echoOwner, if_neg (Nat.not_le.mpr hl), queueReply_accepted]
  · rw [exec_echo ha, echoOwner, if_pos hl, queueReply_accepted]
  · simp only [exec_configGet ha, configGetOwner, parseEmpty_eq_none hp, queueReply_accepted]
  · subst hp
    simp only [exec_configGet ha, configGetOwner, parseEmpty, queueReply_accepted, accepted_frame, configEntries_eq]

/-- Settles O10: a reply by its session, and the requests that no block owns. -/
theorem repliesAndUnownedRequests : Obligations.RepliesAndUnownedRequests := by
  refine ⟨fun r st body s => ⟨fun h => queueReply_of_session h st body, fun h => queueReply_of_ended h st body⟩,
    fun kind seq payload s hk ha => ?_, fun seq payload s ha => ⟨fun hp => ?_, fun hp => ?_⟩⟩
  · rw [exec_of_accepts rfl (by simp [Instr.kindGood, hk]) ha, ownerOf_of_unknown hk, unknownKindOwner,
      queueReply_accepted]
  · simp only [exec_bridgeReset ha, bridgeResetOwner, parseEmpty_eq_none hp, queueReply_accepted]
  · subst hp
    simp only [exec_bridgeReset ha, bridgeResetOwner, parseEmpty, queueReply_accepted]

end Sys2Proof.Machine


/-! ## Characters on a line -/

namespace Sys2Proof.Machine

set_option Elab.async false

/-! ### The levels of a character (R165) -/

theorem charLevels_getLsbD (b : Byte) (k : Nat) :
    (charLevels b).getLsbD k =
      if k < 1 then false else if k - 1 < 8 then b.getLsbD (k - 1) else (1#1).getLsbD (k - 1 - 8) := by
  refine (BitVec.getLsbD_append (x := 1#1 ++ b) (y := 0#1)).trans (if_congr Iff.rfl ?_ ?_)
  · exact BitVec.getLsbD_zero
  · exact BitVec.getLsbD_append

/-! ### What the receiver makes of ten levels (R165, R166) -/

section Received

variable {c : LineChar}

theorem receiveChar_of_byte {b : Byte} (h0 : c.getLsbD 0 = false) (h9 : c.getLsbD 9 = true)
    (h : ∀ k, k < 8 → c.getLsbD (k + 1) = b.getLsbD k) : receiveChar c = some (.byte b) := by
  have hb : c.extractLsb' 1 8 = b := by
    refine BitVec.eq_of_getLsbD_eq fun k hk => ?_
    rw [BitVec.getLsbD_extractLsb', Nat.add_comm 1 k, h k hk, decide_eq_true hk, Bool.true_and]
  simp only [receiveChar, h0, h9, hb, if_true, Bool.false_eq_true, if_false]

theorem receiveChar_of_low_stop (h0 : c.getLsbD 0 = false) (h9 : c.getLsbD 9 = false) :
    receiveChar c = some .framingError := by
  simp only [receiveChar, h0, h9, Bool.false_eq_true, if_false]

theorem receiveChar_of_rest (h0 : c.getLsbD 0 = true) : receiveChar c = none := by
  rw [receiveChar, if_pos h0]

end Received

/-- The place of the first of `n` levels that is high, and `n` where none is. -/
theorem findIdx_range (p : Nat → Bool) (n : Nat) :
    (List.range n).findIdx p ≤ n ∧ (∀ k, k < (List.range n).findIdx p → p k = false) ∧
      ((List.range n).findIdx p < n → p ((List.range n).findIdx p) = true) := by
  have hle : (List.range n).findIdx p ≤ n := by simpa using List.findIdx_le_length (xs := List.range n) (p := p)
  refine ⟨hle, fun k hk => ?_, fun hlt => ?_⟩
  · simpa using List.not_of_lt_findIdx hk
  · have h := List.findIdx_getElem (xs := List.range n) (p := p) (w := by simpa using hlt)
    rwa [List.getElem_range] at h

theorem lowAtStart_eq (c : LineChar) : lowAtStart c = (List.range 10).findIdx c.getLsbD := by
  rw [lowAtStart, List.takeWhile_eq_take_findIdx_not]
  simpa using (findIdx_range c.getLsbD 10).1

theorem lowAtEnd_eq (c : LineChar) : lowAtEnd c = (List.range 10).findIdx fun k => c.getLsbD (9 - k) := by
  rw [lowAtEnd, List.takeWhile_eq_take_findIdx_not]
  simpa using (findIdx_range (fun k => c.getLsbD (9 - k)) 10).1

/-- A group with a high level has one after the low levels it ends with. -/
theorem lowAtEnd_lt {c : LineChar} (h : c ≠ 0) : lowAtEnd c < 10 := by
  obtain ⟨hle, hlow, -⟩ := findIdx_range (fun k => c.getLsbD (9 - k)) 10
  rw [← lowAtEnd_eq] at hle hlow
  refine Nat.lt_of_le_of_ne hle fun he => h (BitVec.eq_of_getLsbD_eq fun k hk => ?_)
  have hk' : c.getLsbD (9 - (9 - k)) = false := hlow (9 - k) (by omega)
  rw [Nat.sub_sub_self (by omega)] at hk'
  exact hk'.trans BitVec.getLsbD_zero.symm

/-! ### The transmit line (R165) -/

theorem transmitLevel_of_idle {s : State} (h : s.link.transmitter = none) (k : Nat) : s.transmitLevel k = true := by
  rw [State.transmitLevel, h]

theorem transmitLevel_of_frame {s : State} {f : Frame} {src : FrameSource} (h : s.link.transmitter = some (f, src))
    (k : Nat) :
    s.transmitLevel k = (f.bytes[k / 10]?.map fun b => (charLevels b).getLsbD (k % 10)).getD true := by
  simp only [State.transmitLevel, h, Frame.line, List.getElem?_map]
  cases f.bytes[k / 10]? <;> rfl

/-- Settles O4: the levels bit by bit, the low runs by the place of the first high level, and the line by its frame. -/
theorem lineCharacters : Obligations.LineCharacters := by
  refine ⟨fun b => ⟨charLevels_getLsbD b 0, fun k hk => ?_, charLevels_getLsbD b 9⟩, fun c => ?_,
    fun s => ⟨transmitLevel_of_idle, fun f src h => ⟨?_, ?_⟩⟩⟩
  · rw [charLevels_getLsbD, if_neg (by omega), Nat.add_sub_cancel, if_pos hk]
  · obtain ⟨hstart, hlow, hhigh⟩ := findIdx_range c.getLsbD 10
    obtain ⟨-, hends, hlast⟩ := findIdx_range (fun k => c.getLsbD (9 - k)) 10
    rw [← lowAtStart_eq] at hstart hlow hhigh
    rw [← lowAtEnd_eq] at hends hlast
    exact ⟨fun b => receiveChar_of_byte, receiveChar_of_low_stop, receiveChar_of_rest, hstart, hlow, hhigh,
      fun run hz => if_pos hz, fun run hz => ⟨if_neg hz, lowAtEnd_lt hz, hlast (lowAtEnd_lt hz), hends⟩⟩
  · intro j b hb k hk
    have hj : (10 * j + k) / 10 = j := by omega
    have hm : (10 * j + k) % 10 = k := by omega
    rw [transmitLevel_of_frame h, hj, hm, hb]
    rfl
  · intro k hk
    rw [transmitLevel_of_frame h, List.getElem?_eq_none (by omega)]
    rfl

end Sys2Proof.Machine


/-! ## Frames: the bytes of a frame, and the requests the part reads back -/

namespace Sys2Proof.Machine

set_option Elab.async false

/-! ### The fields of a frame (R167, R183) -/

theorem le16_bytes16 (v : BitVec 16) : le16 (v.extractLsb' 0 8) (v.extractLsb' 8 8) = v := by
  refine BitVec.eq_of_getLsbD_eq fun k hk => ?_
  rw [le16_getLsbD]
  split
  · next h => rw [BitVec.getLsbD_extractLsb', decide_eq_true h, Bool.true_and, Nat.zero_add]
  · next h =>
    have h8 : k - 8 < 8 := by omega
    rw [BitVec.getLsbD_extractLsb', decide_eq_true h8, Bool.true_and, Nat.add_sub_cancel' (Nat.le_of_not_lt h)]

theorem countBytes_eq (n : Nat) :
    countBytes n = [(BitVec.ofNat 16 n).extractLsb' 0 8, (BitVec.ofNat 16 n).extractLsb' 8 8] := rfl

/-- The length bytes of a frame say the length of a payload it can hold. -/
theorem le16_countBytes {n : Nat} (h : n ≤ Config.payloadBytes) :
    (le16 ((BitVec.ofNat 16 n).extractLsb' 0 8) ((BitVec.ofNat 16 n).extractLsb' 8 8)).toNat = n := by
  rw [le16_bytes16, BitVec.toNat_ofNat, Nat.mod_eq_of_lt]
  exact Nat.lt_of_le_of_lt h (by decide)

theorem Frame.covered_length (f : Frame) : f.covered.length = 5 + f.payload.length := by
  simp [Frame.covered, countBytes_eq]
  omega

theorem FrameClass.code_eq_request_iff (k : FrameClass) : k.code = FrameClass.request.code ↔ k = .request := by
  cases k <;> decide

/-- The bytes of two fields that follow others stand at their place. -/
theorem byteAt_append_pair (front rest : List Byte) (x y : Byte) :
    byteAt (front ++ x :: y :: rest) front.length = x ∧ byteAt (front ++ x :: y :: rest) (front.length + 1) = y := by
  simp [byteAt]

/-! ### Requests by kind code (R186) -/

/-- The command of a kind code, a sequence and a payload is a request of them. -/
theorem commandOf_request (kind seq : Byte) (payload : List Byte) :
    (commandOf kind seq payload).request = some (kind, seq, payload) ∧ (commandOf kind seq payload).kindGood = true := by
  cases hk : namesRequest kind with
  | false =>
    simp [namesRequest, Kind.requests] at hk
    simp [commandOf, hk, Instr.request, Instr.kindGood, namesRequest, Kind.requests]
  | true =>
    simp only [namesRequest, Kind.requests, List.contains_iff_mem] at hk
    revert kind
    simp only [List.forall_mem_cons, List.not_mem_nil, false_imp_iff, implies_true, and_true]
    and_intros <;> rfl

/-- A request with a kind code of its own is the command of its fields. -/
theorem commandOf_of_request {c : Instr} {kind seq : Byte} {payload : List Byte}
    (hr : c.request = some (kind, seq, payload)) (hk : c.kindGood = true) : commandOf kind seq payload = c := by
  cases c with
  | unknownKindRequest =>
    cases hr
    simp [Instr.kindGood, namesRequest, Kind.requests] at hk
    simp [commandOf, hk]
  | _ => cases hr <;> rfl

/-- Settles O5: the fields stand where `readFrame` takes them, and the check matches. -/
theorem requestFrameRoundTrip : Obligations.RequestFrameRoundTrip := by
  intro c hw hs
  obtain ⟨⟨kind, seq, payload⟩, hr⟩ := Option.isSome_iff_exists.mp hs
  obtain ⟨hlen, hk⟩ := (wf_iff_of_request hr).mp hw
  have hn := le16_countBytes hlen
  have hb : writeFrame c = 0x5A :: FrameClass.request.code :: kind :: seq ::
      (BitVec.ofNat 16 payload.length).extractLsb' 0 8 :: (BitVec.ofNat 16 payload.length).extractLsb' 8 8 ::
      (payload ++ bytes16 (requestFrame kind seq payload).crc) := by
    rw [writeFrame, hr]
    rfl
  obtain ⟨hlo, hhi⟩ := byteAt_append_pair payload []
    ((requestFrame kind seq payload).crc.extractLsb' 0 8) ((requestFrame kind seq payload).crc.extractLsb' 8 8)
  rw [hb, readFrame]
  rw [hn, List.take_left, commandOf_of_request hr hk, if_pos]
  refine ⟨rfl, rfl, hlen, by simp [bytes16], ?_⟩
  rw [bytes16, hlo, hhi, le16_bytes16]
  rfl

end Sys2Proof.Machine


/-! ## The receive line: levels, breaks within them, and the framer -/

namespace Sys2Proof.Machine

set_option Elab.async false

/-! ### What the framer finds after a sync byte (R168) -/

@[simp] theorem goodBytes_bytes (bs : List Byte) (cs : List RxChar) :
    goodBytes (bs.map .byte ++ cs) = bs ++ goodBytes cs := by
  induction bs with
  | nil => rfl
  | cons b bs ih => exact congrArg (b :: ·) ih

/-- A header whose length is over 4160 is no frame's. -/
theorem findFrame_of_long {a b c d e : Byte} {cs : List RxChar} (h : Config.payloadBytes < (le16 d e).toNat) :
    findFrame ([a, b, c, d, e].map .byte ++ cs) = .resync := by
  rw [findFrame, if_pos]
  rw [goodBytes_bytes]
  exact ⟨by simp, h⟩

theorem headerLength_covered {f : Frame} (h : f.payload.length ≤ Config.payloadBytes) (rest : List Byte) :
    headerLength (f.covered ++ rest) = f.payload.length := le16_countBytes h

/-- A frame that has ended is judged by its check, and then by its class. -/
theorem findFrame_of_ended {f : Frame} (h : f.payload.length ≤ Config.payloadBytes) (x y : Byte) (cs : List RxChar) :
    findFrame ((f.covered ++ [x, y]).map .byte ++ cs) =
      if f.crc ≠ le16 x y then .resync
      else if f.cls ≠ .request then .skip (7 + f.payload.length) else .request (7 + f.payload.length) := by
  have hb : goodBytes ((f.covered ++ [x, y]).map .byte ++ cs) = f.covered ++ x :: y :: goodBytes cs := by
    rw [goodBytes_bytes, List.append_assoc]
    rfl
  obtain ⟨hx, hy⟩ := byteAt_append_pair f.covered (goodBytes cs) x y
  rw [f.covered_length] at hx hy
  have hl : (f.covered ++ x :: y :: goodBytes cs).length = 7 + f.payload.length + (goodBytes cs).length := by
    simp [f.covered_length]
    omega
  have hcls : byteAt (f.covered ++ x :: y :: goodBytes cs) 0 = f.cls.code := rfl
  have htake : (f.covered ++ x :: y :: goodBytes cs).take (5 + f.payload.length) = f.covered := by
    rw [← f.covered_length, List.take_left]
  have h6 : 6 + f.payload.length = 5 + f.payload.length + 1 := by omega
  rw [findFrame, hb]
  dsimp only
  rw [headerLength_covered h, if_neg (by omega), if_pos (by omega), htake, hx, h6, hy, hcls]
  exact if_congr Iff.rfl rfl (if_congr (not_congr f.cls.code_eq_request_iff) rfl rfl)

/-- Bytes too few for a frame: what follows them decides whether it goes on. -/
theorem findFrame_of_unended {bs : List Byte}
    (h : bs.length < 5 ∨ headerLength bs ≤ Config.payloadBytes ∧ bs.length < 7 + headerLength bs) {cs : List RxChar}
    (hc : goodBytes cs = bs) :
    findFrame cs = if bs.length < cs.length then .skip (bs.length + 1) else .incomplete := by
  rw [findFrame, hc]
  dsimp only
  rw [if_neg (by omega), if_neg (by omega)]

/-! ### Hunting (R168) -/

theorem huntFrom_skip (front cs : List RxChar) : huntFrom front.length (front ++ cs) = huntFrom 0 cs := by
  induction front with
  | nil => rfl
  | cons c front ih => exact ih

theorem hear_of_no_sync {c : RxChar} (h : c ≠ .byte 0x5A) (cs : List RxChar) :
    Framer.hunt.hear (c :: cs) = Framer.hunt.hear cs := by
  cases c with
  | byte b => exact if_neg fun e => h (by rw [e])
  | framingError => rfl

theorem hear_of_resync {cs : List RxChar} (h : findFrame cs = .resync) :
    Framer.hunt.hear (.byte 0x5A :: cs) = Framer.hunt.hear cs := by
  show huntFrom 0 (.byte 0x5A :: cs) = huntFrom 0 cs
  rw [huntFrom, if_pos rfl, h]

theorem hear_of_skip {front cs : List RxChar} (h : findFrame (front ++ cs) = .skip front.length) :
    Framer.hunt.hear (.byte 0x5A :: (front ++ cs)) = Framer.hunt.hear cs := by
  show huntFrom 0 (.byte 0x5A :: (front ++ cs)) = huntFrom 0 cs
  rw [huntFrom, if_pos rfl, h]
  exact huntFrom_skip front cs

theorem hear_of_request {front cs : List RxChar} (h : findFrame (front ++ cs) = .request front.length) :
    Framer.hunt.hear (.byte 0x5A :: (front ++ cs)) = { Framer.hunt.hear cs with
      requests := requestOf (goodBytes (front ++ cs)) :: (Framer.hunt.hear cs).requests } := by
  show huntFrom 0 (.byte 0x5A :: (front ++ cs)) = _
  rw [huntFrom, if_pos rfl, h]
  dsimp only
  rw [huntFrom_skip]
  rfl

theorem hear_of_incomplete {cs : List RxChar} (h : findFrame cs = .incomplete) :
    Framer.hunt.hear (.byte 0x5A :: cs) = { requests := [], framer := .frame (0x5A :: goodBytes cs) } := by
  show huntFrom 0 (.byte 0x5A :: cs) = _
  rw [huntFrom, if_pos rfl, h]

/-! ### Frames among the characters (R167, R168) -/

section Frames

variable {f : Frame}

theorem hear_of_bad_check (h : f.payload.length ≤ Config.payloadBytes) {x y : Byte} (hc : le16 x y ≠ f.crc)
    (cs : List RxChar) :
    Framer.hunt.hear (((0x5A#8 :: f.covered ++ [x, y]).map .byte) ++ cs) =
      Framer.hunt.hear (((f.covered ++ [x, y]).map .byte) ++ cs) :=
  hear_of_resync ((findFrame_of_ended h x y cs).trans (if_pos hc.symm))

/-- A good frame is judged by its class. -/
theorem findFrame_of_good (h : f.payload.length ≤ Config.payloadBytes) (cs : List RxChar) :
    findFrame ((f.covered ++ bytes16 f.crc).map .byte ++ cs) =
      if f.cls ≠ .request then .skip ((f.covered ++ bytes16 f.crc).map RxChar.byte).length
      else .request ((f.covered ++ bytes16 f.crc).map RxChar.byte).length := by
  have hl : ((f.covered ++ bytes16 f.crc).map RxChar.byte).length = 7 + f.payload.length := by
    simp [f.covered_length, bytes16]
    omega
  rw [hl]
  exact (findFrame_of_ended h _ _ cs).trans (if_neg (by rw [le16_bytes16]; simp))

theorem requestOf_covered (h : f.payload.length ≤ Config.payloadBytes) (rest : List Byte) :
    requestOf (f.covered ++ rest) = { kind := f.kind, seq := f.seq, payload := f.payload } := by
  have hd : ((f.covered ++ rest).drop 5).take f.payload.length = f.payload := List.take_left' rfl
  rw [requestOf, headerLength_covered h, hd]
  rfl

theorem hear_of_other_class (h : f.payload.length ≤ Config.payloadBytes) (hk : f.cls ≠ .request) (cs : List RxChar) :
    Framer.hunt.hear (f.bytes.map .byte ++ cs) = Framer.hunt.hear cs :=
  hear_of_skip ((findFrame_of_good h cs).trans (if_pos hk))

theorem hear_of_request_frame (h : f.payload.length ≤ Config.payloadBytes) (hk : f.cls = .request)
    (cs : List RxChar) :
    Framer.hunt.hear (f.bytes.map .byte ++ cs) = { Framer.hunt.hear cs with
      requests := { kind := f.kind, seq := f.seq, payload := f.payload } :: (Framer.hunt.hear cs).requests } := by
  have hr := hear_of_request ((findFrame_of_good h cs).trans (if_neg (not_not_intro hk)))
  rw [goodBytes_bytes, List.append_assoc, requestOf_covered h] at hr
  exact hr

theorem hear_of_unended {bs : List Byte}
    (h : bs.length < 5 ∨ headerLength bs ≤ Config.payloadBytes ∧ bs.length < 7 + headerLength bs) :
    Framer.hunt.hear (.byte 0x5A :: bs.map .byte) = { requests := [], framer := .frame (0x5A :: bs) } := by
  have hg : goodBytes (bs.map .byte) = bs := by simpa [goodBytes] using goodBytes_bytes bs []
  rw [hear_of_incomplete ((findFrame_of_unended h hg).trans (if_neg (by simp))), hg]

theorem hear_of_framing_error {bs : List Byte}
    (h : bs.length < 5 ∨ headerLength bs ≤ Config.payloadBytes ∧ bs.length < 7 + headerLength bs) (cs : List RxChar) :
    Framer.hunt.hear (.byte 0x5A :: bs.map .byte ++ .framingError :: cs) = Framer.hunt.hear cs := by
  have hg : goodBytes (bs.map .byte ++ .framingError :: cs) = bs := by simp [goodBytes]
  have hs : bs.map RxChar.byte ++ RxChar.framingError :: cs = (bs.map .byte ++ [.framingError]) ++ cs := by simp
  have hf : findFrame ((bs.map RxChar.byte ++ [.framingError]) ++ cs) =
      .skip (bs.map RxChar.byte ++ [RxChar.framingError]).length := by
    rw [← hs, findFrame_of_unended h hg, if_pos (by simp)]
    simp
  rw [List.cons_append, hs]
  exact hear_of_skip hf

end Frames

/-! ### A request's command as its levels (R165, R168) -/

section Levels

variable {s : State}

theorem receive_of_open (hp : s.link.phase ≠ .brk) (cs : List RxChar) :
    receive cs s = ((s.link.framer.hear cs).requests.foldl (fun s q => passOn q s) (s.withFramer .hunt)).withFramer
      (s.link.framer.hear cs).framer :=
  if_neg hp

/-- In HUNT, with the line high, characters of one request frame are that request passed on. -/
theorem receive_request_frame (hp : s.link.phase ≠ .brk) (hf : s.link.framer = .hunt) {q : RxRequest}
    (hl : q.payload.length ≤ Config.payloadBytes) :
    receive ((requestFrame q.kind q.seq q.payload).bytes.map .byte) s = passOn q s := by
  have hh : Framer.hunt.hear ((requestFrame q.kind q.seq q.payload).bytes.map .byte) =
      { requests := [q], framer := .hunt } := by
    have h := hear_of_request_frame (f := requestFrame q.kind q.seq q.payload) hl rfl []
    rw [List.append_nil] at h
    exact h
  have hs : s.withFramer .hunt = s := by rw [State.withFramer, ← hf]
  obtain ⟨hpf, -, -⟩ := passOn_line q s
  rw [receive_of_open hp, hf, hh, hs]
  show (passOn q s).withFramer .hunt = passOn q s
  rw [State.withFramer, ← hf, ← hpf]

/-- In HUNT, with the line high, the levels of a request frame are that request passed on. -/
theorem hearLevels_request_frame (hp : s.link.phase ≠ .brk) (hf : s.link.framer = .hunt) (hr : s.link.lowRun = 0)
    {q : RxRequest} (hl : q.payload.length ≤ Config.payloadBytes) :
    hearLevels (requestFrame q.kind q.seq q.payload).line [] s = passOn q s := by
  have hs : s.withLowRun 0 = s := by rw [State.withLowRun, ← hr]
  rw [hearLevels_of_quiet hp fun front c rest e => line_quiet _ (by omega) front c rest e, line_run, hs,
    filterMap_receiveChar_line]
  exact receive_request_frame hp hf hl

/-- However it comes, a request's frame is its levels. -/
theorem onRequest_eq_levels (kind seq : Byte) (payload : List Byte) (s : State) :
    onRequest kind seq payload (ownerOf kind payload) s = hearLevels (requestFrame kind seq payload).line [] s := by
  by_cases h : s.link.phase ≠ .brk ∧ s.link.framer = .hunt ∧ s.link.lowRun = 0 ∧
      payload.length ≤ Config.payloadBytes
  · obtain ⟨hp, hf, hr, hl⟩ := h
    rw [onRequest_of_hunt hp hf hr hl]
    exact (hearLevels_request_frame hp hf hr (q := ⟨kind, seq, payload⟩) hl).symm
  · exact onRequest_of_levels h

/-- Levels that hold the line low for no two character times are their characters, received together. -/
theorem exec_frameDiscard_quiet {cs : List LineChar} (hp : s.link.phase ≠ .brk)
    (hq : ∀ front c rest, cs = front ++ c :: rest → front.foldl runAfter s.link.lowRun + lowAtStart c < 20) :
    exec (.frameDiscard cs) s = .next
      (((s.link.framer.hear (cs.filterMap receiveChar)).requests.foldl (fun s q => passOn q s)
        { s with link := { s.link with framer := .hunt, lowRun := cs.foldl runAfter s.link.lowRun } }).withFramer
        (s.link.framer.hear (cs.filterMap receiveChar)).framer) := by
  show Host.Outcome.next (hearLevels cs [] s) = _
  rw [hearLevels_of_quiet hp hq]
  exact congrArg Host.Outcome.next (receive_of_open (s := s.withLowRun (cs.foldl runAfter s.link.lowRun)) hp _)

/-! ### Breaks within levels (R166) -/

/-- The group in which a break ends. -/
theorem hearInBreak_of_high {c : LineChar} (hc : c ≠ 0) {x : State} (hp : s.link.phase = .brk)
    (hx : exec .breakEnd s = .next x) :
    hearInBreak c s = { x with link := { x.link with lowRun := lowAtEnd c } } := by
  have he : endBreak s = x := by
    have : Host.Outcome.next (if s.link.phase = .brk then endBreak s else s) = .next x := hx
    rw [if_pos hp] at this
    exact Host.Outcome.next.inj this
  rw [hearInBreak, if_neg hc, he]
  rfl

/-- A break that is begun by BREAK_BEGIN. -/
theorem exec_breakBegin (hp : s.link.phase ≠ .brk) : exec .breakBegin s = .next (settle (beginBreak s)) := by
  show Host.Outcome.next (if s.link.phase = .brk then s else settle (beginBreak s)) = _
  rw [if_neg hp]

end Levels

/-- Settles O3: a request's command is its levels; levels are characters until they complete a break; and what the framer
makes of characters is told by the finding after a sync byte. -/
theorem framerReceives : Obligations.FramerReceives := by
  refine ⟨⟨fun c kind seq payload s hw hr => ?_, ?_, fun q s hp hf hl hlen => ?_⟩, ⟨?_, fun c cs s hp => ⟨?_, ?_, ?_⟩⟩,
    fun c cs h => hear_of_no_sync h cs, fun a b c d e cs h => hear_of_resync (findFrame_of_long h),
    fun f x y cs h hc => hear_of_bad_check h hc cs, fun f cs h hk => hear_of_other_class h hk cs,
    fun f cs h hk => hear_of_request_frame h hk cs, fun bs h => ⟨hear_of_unended h, hear_of_framing_error h⟩,
    fun _ _ => rfl⟩
  · obtain ⟨-, hk⟩ := (wf_iff_of_request hr).mp hw
    rw [exec_request hr, if_pos hk, onRequest_eq_levels]
    rfl
  · rintro cs s run h hp hq rfl rfl
    exact exec_frameDiscard_quiet hp hq
  · obtain ⟨hr, hk⟩ := commandOf_request q.kind q.seq q.payload
    exact exec_of_hunt ((wf_iff_of_request hr).mpr ⟨hlen, hk⟩) hr hp hf hl
  · intro front rest c s v w hv hp hc hw
    have hv : hearLevels front [] s = v := Host.Outcome.next.inj hv
    subst hv
    have hw : settle (beginBreak (hearLevels front [] s)) = w :=
      Host.Outcome.next.inj ((exec_breakBegin hp).symm.trans hw)
    subst hw
    have hb : exec (.frameDiscard (front ++ c :: rest)) s = .next (hearLevels rest []
        (hearInBreak c (settle (beginBreak (hearLevels front [] s))))) :=
      congrArg Host.Outcome.next (hearLevels_break hp hc)
    refine ⟨fun hz => ?_, fun x hz hx => ?_⟩
    · rw [hb, hearInBreak, if_pos hz]
      rfl
    · rw [hb, hearInBreak_of_high hz (beginBreak_phase _) hx]
      rfl
  · show Host.Outcome.next (receive [] s) = .next s
    rw [receive, if_pos hp]
  · intro hz
    show Host.Outcome.next (hearLevels (c :: cs) [] s) = _
    rw [hearLevels_of_break hp, hearInBreak, if_pos hz]
    rfl
  · intro x hz hx
    show Host.Outcome.next (hearLevels (c :: cs) [] s) = _
    rw [hearLevels_of_break hp, hearInBreak_of_high hz hp hx]
    rfl

end Sys2Proof.Machine


/-! ## The last byte of a frame, and the bridge reset -/

namespace Sys2Proof.Machine

set_option Elab.async false

/-- Settles O50: each source of a frame by its own act. -/
theorem frameSent : Obligations.FrameSent := by
  refine ⟨fun s => exec_frameSent_of_idle, ?_, ?_, ?_⟩
  · intro s f r others h hk hr ho
    rw [exec_frameSent_reply h, replySent_own hr hk, Link.replied_eq (l := s.lineIdle.link) ho]
    rfl
  · rintro s f src h (⟨r, rfl, hr⟩ | rfl | ⟨k, rfl⟩ | ⟨i, rfl⟩ | ⟨n, b, rfl⟩ | ⟨n, rfl⟩)
    · rw [exec_frameSent_reply h, replySent_resend hr]
      rfl
    all_goals exact exec_frameSent_other h (by simp) (by simp)
  · intro s f p rest h hp
    refine ⟨_, exec_frameSent_post h, ?_, fun i => ?_⟩
    · simp [settle, postSent, roomEvent, State.lineIdle, hp]
    · refine (roomEvent_roomWait _ i).trans ?_
      have hroom : ∀ n, (Inbound.hasRoom { s.inb with posts := s.inb.posts.tail } n = true) ↔
          rest.length < 32 ∧ n ≤ 8192 - (rest.map fun q => q.body.length).sum - s.inb.reserved := fun n => by
        rw [hasRoom_iff_free, hp]
        rfl
      show (s.inb.roomWait[i]).bind _ = _
      cases s.inb.roomWait[i] with
      | none => rfl
      | some n => exact if_congr (hroom n) rfl rfl

/-- Settles O51: the taking and the completion, block by block, and the arbiter after each. -/
theorem bridgeReset : Obligations.BridgeReset := by
  refine ⟨fun s f r h hk hok hr hp => ?_, exec_bridgeResetComplete_not_due, fun s hr ht hx => ?_⟩
  · have hlink : (s.lineIdle.link.replied r).takeReset = { s.link with
        phase := .resetWait, resetTaken := true, framer := .hunt, session := s.link.session + 1, unreplied := []
        replies := [], cache := [], overload := none, transmitter := none } := by
      simp [Link.takeReset, Link.replied, Link.cacheReply, State.lineIdle, hp]
    have hw : wanted (takeReset { s.lineIdle with link := s.lineIdle.link.replied r }) = {} := wanted_of_reset rfl
    refine ⟨_, exec_frameSent_reply h, ?_⟩
    rw [replySent_reset hr ⟨hk, hok⟩]
    exact ⟨rfl, hlink, hw, rfl, settle_choice_of_nobody hw, Hold.takeReset_of_pending, Hold.takeReset_of_not_pending⟩
  · refine ⟨_, exec_bridgeResetComplete_due s hr ht hx, ?_, ?_, ?_,
      fun hq => settle_choice_of_nobody (wanted_completeReset s hq), ?_, fun i hi => ?_, fun i hi => ?_, ?_, ?_⟩
    · rw [settle_eq, completeReset_eq]
    · rw [completeReset_eq]
      rfl
    · rw [settle_turn, completeReset_eq]
      simp
    · rw [completeReset_eq]
      rfl
    · exact (completeReset_slot s i).trans (if_pos hi)
    · exact (completeReset_slot s i).trans (if_neg hi)
    · rw [completeReset_eq]
      rfl
    · rw [completeReset_eq]
      exact Link.completeReset_eq s.link

end Sys2Proof.Machine


/-! ## CONFIG_SET -/

namespace Sys2Proof.Machine

set_option Elab.async false

/-! ### The pairs of a payload (R181, R188) -/

theorem parsePairs_length {p : List Byte} {ps : List (Byte × BitVec 16)} (h : parsePairs p = some ps) :
    p.length = 3 * ps.length := by
  induction p using parsePairs.induct generalizing ps with
  | case1 => cases h; rfl
  | case2 c v0 v1 rest ih =>
    obtain ⟨qs, hq, rfl⟩ := Option.map_eq_some_iff.mp h
    simp [ih hq]
    omega
  | case3 p h1 h2 => rw [parsePairs] at h <;> simp_all

theorem parsePairs_flatMap (ps : List (Byte × BitVec 16)) :
    parsePairs (ps.flatMap fun x => x.1 :: bytes16 x.2) = some ps := by
  induction ps with
  | nil => rfl
  | cons x ps ih =>
    show (parsePairs (ps.flatMap fun x => x.1 :: bytes16 x.2)).map _ = _
    rw [ih, le16_bytes16]
    rfl

theorem parseConfigSet_eq_none {p : List Byte} (h : p = [] ∨ p.length % 3 ≠ 0 ∨ 39 < p.length) :
    parseConfigSet p = none := by
  unfold parseConfigSet
  split
  · next ps hp =>
    have hl := parsePairs_length hp
    refine if_neg ?_
    rintro ⟨h1, h13⟩
    rcases h with rfl | h | h
    · rw [List.length_nil] at hl
      omega
    · omega
    · omega
  · rfl

theorem parseConfigSet_of_pairs {ps : List (Byte × BitVec 16)} (h1 : 1 ≤ ps.length) (h13 : ps.length ≤ 13) :
    parseConfigSet (ps.flatMap fun x => x.1 :: bytes16 x.2) = some ps := by
  simp only [parseConfigSet, parsePairs_flatMap]
  exact if_pos ⟨h1, h13⟩

/-! ### The check of the pairs (R181, R187) -/

theorem paramOfCode_eq_some_iff {b : Byte} {i : ParamId} : paramOfCode b = some i ↔ i.code = b := by
  constructor
  · intro h
    simpa using List.find?_some h
  · rintro rfl
    cases i <;> rfl

theorem ParamId.code_injective : Function.Injective ParamId.code := fun _ _ h =>
  Option.some.inj ((paramOfCode_eq_some_iff.mpr rfl).symm.trans (paramOfCode_eq_some_iff.mpr h.symm))

/-- A pair of code and value, and the parameter and value it stands for. -/
def ParamId.pair (x : ParamId × Nat) : Byte × Nat := (x.1.code, x.2)

/-- Pairs that pass the check name the parameters found, each at most once, with values in their ranges. -/
theorem checkPairs_sound {raw : List (Byte × BitVec 16)} {ps : List (ParamId × Nat)} (h : checkPairs raw = some ps) :
    raw.map (fun x => (x.1, x.2.toNat)) = ps.map ParamId.pair ∧ (ps.map Prod.fst).Nodup := by
  induction raw generalizing ps with
  | nil => cases h; exact ⟨rfl, List.nodup_nil⟩
  | cons x raw ih =>
    unfold checkPairs at h
    split at h
    · next i qs hi hq =>
      split at h
      · next hgood =>
        cases h
        obtain ⟨hmap, hnodup⟩ := ih hq
        refine ⟨?_, List.nodup_cons.mpr ⟨hgood.2, hnodup⟩⟩
        rw [List.map_cons, List.map_cons, hmap, ← paramOfCode_eq_some_iff.mp hi]
        rfl
      · cases h
    · cases h

/-- The codes of pairs that pass the check. -/
theorem codes_of_checkPairs {raw : List (Byte × BitVec 16)} {ps : List (ParamId × Nat)}
    (h : checkPairs raw = some ps) : raw.map Prod.fst = (ps.map Prod.fst).map ParamId.code := by
  have hm := congrArg (List.map Prod.fst) (checkPairs_sound h).1
  simpa [Function.comp_def, ParamId.pair] using hm

/-- What a pair that passes the check stands for. -/
theorem param_of_checkPairs {raw : List (Byte × BitVec 16)} {ps : List (ParamId × Nat)}
    (h : checkPairs raw = some ps) {x : Byte × BitVec 16} (hx : x ∈ raw) :
    ∃ i : ParamId, i.code = x.1 ∧ (i, x.2.toNat) ∈ ps := by
  have hm : (x.1, x.2.toNat) ∈ ps.map ParamId.pair := (checkPairs_sound h).1 ▸ List.mem_map_of_mem hx
  obtain ⟨⟨i, v⟩, hy, he⟩ := List.mem_map.mp hm
  have hv : v = x.2.toNat := congrArg Prod.snd he
  exact ⟨i, congrArg Prod.fst he, hv ▸ hy⟩

/-- Pairs of known codes, no two the same, with values in their ranges pass the check. -/
theorem checkPairs_complete {raw : List (Byte × BitVec 16)}
    (h : ∀ x ∈ raw, ∃ p : ParamId, p.code = x.1 ∧ p.inRange x.2.toNat = true) (hn : (raw.map Prod.fst).Nodup) :
    ∃ ps, checkPairs raw = some ps := by
  induction raw with
  | nil => exact ⟨[], rfl⟩
  | cons x raw ih =>
    obtain ⟨hx, hn⟩ := List.nodup_cons.mp hn
    obtain ⟨qs, hq⟩ := ih (fun y hy => h y (List.mem_cons_of_mem _ hy)) hn
    obtain ⟨i, hi, hr⟩ := h x List.mem_cons_self
    have hnew : i ∉ qs.map Prod.fst := fun hm => hx (by
      rw [codes_of_checkPairs hq, ← hi]
      exact List.mem_map_of_mem hm)
    refine ⟨(i, x.2.toNat) :: qs, ?_⟩
    rw [checkPairs, paramOfCode_eq_some_iff.mpr hi, hq]
    exact if_pos ⟨hr, hnew⟩

/-- A code that names no parameter or is named twice, or a value out of its range, spoils the list. -/
theorem checkPairs_eq_none {raw : List (Byte × BitVec 16)}
    (h : (∃ x ∈ raw, ∀ p : ParamId, p.code ≠ x.1) ∨ ¬(raw.map Prod.fst).Nodup ∨
      (∃ x ∈ raw, ∃ p : ParamId, p.code = x.1 ∧ p.inRange x.2.toNat = false)) : checkPairs raw = none := by
  rw [Option.eq_none_iff_forall_ne_some]
  intro ps hps
  rcases h with ⟨x, hx, hno⟩ | hdup | ⟨x, hx, p, hp, hout⟩
  · obtain ⟨i, hi, -⟩ := param_of_checkPairs hps hx
    exact hno i hi
  · refine hdup ?_
    rw [codes_of_checkPairs hps]
    exact (checkPairs_sound hps).2.map ParamId.code_injective
  · obtain ⟨i, hi, hm⟩ := param_of_checkPairs hps hx
    obtain rfl := ParamId.code_injective (hp.trans hi.symm)
    have := inRange_of_checkPairs hps _ hm
    rw [hout] at this
    cases this

/-! ### The parameters after the pairs (R181) -/

theorem Params.get_set_self {i : ParamId} {v : Nat} (h : i.inRange v = true) (p : Params) : (p.set i v).get i = v := by
  cases i with
  | autoEnroll =>
    have hv : v ≤ 1 := of_decide_eq_true h
    simp only [Params.set, Params.get, decide_eq_true_eq]
    split <;> omega
  | _ => rfl

theorem Params.apply_get_of_not_named {i : ParamId} {ps : List (ParamId × Nat)} (h : i ∉ ps.map Prod.fst)
    (p : Params) : (p.apply ps).get i = p.get i := by
  induction ps generalizing p with
  | nil => rfl
  | cons x ps ih =>
    obtain ⟨hx, hps⟩ : i ≠ x.1 ∧ i ∉ ps.map Prod.fst := by simpa using h
    exact (ih hps (p.set x.1 x.2)).trans (p.get_set_of_ne x.2 hx)

theorem Params.apply_get_of_named {ps : List (ParamId × Nat)} (hn : (ps.map Prod.fst).Nodup)
    (hr : ∀ x ∈ ps, x.1.inRange x.2 = true) {i : ParamId} {v : Nat} (h : (i, v) ∈ ps) (p : Params) :
    (p.apply ps).get i = v := by
  induction ps generalizing p with
  | nil => cases h
  | cons x ps ih =>
    obtain ⟨hx, hps⟩ := List.nodup_cons.mp hn
    rcases List.mem_cons.mp h with rfl | h
    · exact (Params.apply_get_of_not_named hx _).trans (Params.get_set_self (hr _ List.mem_cons_self) p)
    · exact ih hps (fun y hy => hr y (List.mem_cons_of_mem _ hy)) h (p.set x.1 x.2)

/-- The reply to pairs that pass the check gives them back (R181, R189). -/
theorem entries_of_checkPairs {raw : List (Byte × BitVec 16)} {ps : List (ParamId × Nat)}
    (h : checkPairs raw = some ps) (p : Params) :
    (ps.flatMap fun x => (p.apply ps).entry x.1) = raw.flatMap fun x => x.1 :: bytes16 x.2 := by
  obtain ⟨hmap, hn⟩ := checkPairs_sound h
  calc ps.flatMap (fun x => (p.apply ps).entry x.1)
      = ps.flatMap (fun x => x.1.code :: countBytes x.2) := by
        refine List.flatMap_congr fun x hx => ?_
        rw [Params.entry, Params.apply_get_of_named hn (inRange_of_checkPairs h) hx]
    _ = (ps.map ParamId.pair).flatMap (fun z => z.1 :: countBytes z.2) := by rw [List.flatMap_map]; rfl
    _ = (raw.map fun x => (x.1, x.2.toNat)).flatMap (fun z => z.1 :: countBytes z.2) := by rw [hmap]
    _ = raw.flatMap (fun x => x.1 :: bytes16 x.2) := by simp [List.flatMap_map, countBytes]

/-! ### The check timers (R97) -/

theorem setParams_slot (p : Params) (s : State) (i : SlotId) :
    (setParams p s).slot i = (s.slot i).switchCheck s.params.checkInterval p.checkInterval := Vector.getElem_map ..

/-- A switch of CHECK_INTERVAL changes the timer alone. -/
theorem Slot.switchCheck_eq (r : Slot) (old new : Nat) :
    r.switchCheck old new = { r with timer := (r.switchCheck old new).timer } := by
  unfold Slot.switchCheck
  (repeat' split) <;> rfl

/-- CHECK_INTERVAL stays 0, or stays another value than 0: the timers run on. -/
theorem Slot.switchCheck_of_iff (r : Slot) {old new : Nat} (h : old = 0 ↔ new = 0) : r.switchCheck old new = r := by
  rw [Slot.switchCheck, if_neg fun ⟨h1, h2⟩ => h1 (h.mpr h2), if_neg fun ⟨h1, h2, _⟩ => h2 (h.mp h1)]

theorem Slot.switchCheck_to_zero (r : Slot) {old : Nat} (h : old ≠ 0) :
    (r.switchCheck old 0).timer = r.timer.filter fun t => t.kind ≠ .check := by
  rw [Slot.switchCheck, if_pos ⟨h, rfl⟩]
  cases ht : r.timer with
  | none => exact ht
  | some t =>
    by_cases hk : t.kind = .check
    · simp [Option.filter, hk]
    · simp [Option.filter, hk, ht]

theorem Slot.switchCheck_from_zero (r : Slot) {new : Nat} (h : new ≠ 0) :
    (r.switchCheck 0 new).timer =
      if r.state.inService = true then some { kind := .check, ms := new } else r.timer := by
  rw [Slot.switchCheck, if_neg (by simp)]
  simp only [ne_eq, h, not_false_eq_true, true_and]
  split <;> rfl

/-- New parameters change the timers alone. -/
theorem setParams_slot_eq (p : Params) (s : State) (i : SlotId) :
    (setParams p s).slot i = { s.slot i with timer := ((setParams p s).slot i).timer } := by
  rw [setParams_slot]
  exact Slot.switchCheck_eq ..

theorem setParams_sup_of_iff {p : Params} {s : State} (h : s.params.checkInterval = 0 ↔ p.checkInterval = 0) :
    (setParams p s).sup = s.sup := by
  have hv : s.sup.slots.map (fun r => r.switchCheck s.params.checkInterval p.checkInterval) = s.sup.slots := by
    simp [Slot.switchCheck_of_iff _ h]
  rw [setParams]
  dsimp only
  rw [hv]

/-! ### CONFIG_SET of an accepted request -/

/-- The accepted request's own reply beside new parameters. -/
theorem queueReply_accepted_params (kind seq : Byte) (payload : List Byte) (s : State) (p : Params) (st : Status)
    (body : List Byte) :
    queueReply (reqId kind seq payload s) st body (setParams p (s.accepted kind seq payload)) =
      { s.answered kind seq payload st body with params := p, sup := (setParams p s).sup } := by
  rw [queueReply_of_session rfl]
  rfl

section ConfigSet

variable {seq : Byte} {payload : List Byte} {s : State}

theorem exec_configSet (ha : Accepts Kind.configSet seq payload s) :
    exec (.configSet seq payload) s = .next (configSetOwner payload (reqId Kind.configSet seq payload s)
      (s.accepted Kind.configSet seq payload)) := exec_of_accepts rfl rfl ha

theorem exec_configSet_malformed (ha : Accepts Kind.configSet seq payload s) (h : parseConfigSet payload = none) :
    exec (.configSet seq payload) s = .next (s.answered Kind.configSet seq payload .malformed []) := by
  simp only [exec_configSet ha, configSetOwner, h, queueReply_accepted]

theorem exec_configSet_range {raw : List (Byte × BitVec 16)} (ha : Accepts Kind.configSet seq payload s)
    (h : parseConfigSet payload = some raw) (hc : checkPairs raw = none) :
    exec (.configSet seq payload) s = .next (s.answered Kind.configSet seq payload .range []) := by
  simp only [exec_configSet ha, configSetOwner, h, hc, queueReply_accepted]

theorem exec_configSet_taken {raw : List (Byte × BitVec 16)} {ps : List (ParamId × Nat)}
    (ha : Accepts Kind.configSet seq payload s) (h : parseConfigSet payload = some raw)
    (hc : checkPairs raw = some ps) :
    exec (.configSet seq payload) s = .next
      { s.answered Kind.configSet seq payload .ok (ps.flatMap fun x => (s.params.apply ps).entry x.1) with
        params := s.params.apply ps, sup := (setParams (s.params.apply ps) s).sup } := by
  simp only [exec_configSet ha, configSetOwner, h, hc, accepted_frame, queueReply_accepted_params]

end ConfigSet

/-- Settles O48: the pairs parsed, checked and applied, and the check timers slot by slot. -/
theorem configSet : Obligations.ConfigSet := by
  refine ⟨fun seq payload s ha => ⟨fun h => exec_configSet_malformed ha (parseConfigSet_eq_none h), ?_⟩,
    fun s p i => ⟨fun ho hn => ?_, fun ho hn => ?_⟩⟩
  · rintro raw rfl h1 h13
    have hp := parseConfigSet_of_pairs h1 h13
    refine ⟨fun h => exec_configSet_range ha hp (checkPairs_eq_none h), fun h hn => ?_⟩
    obtain ⟨ps, hc⟩ := checkPairs_complete h hn
    have hnodup := (checkPairs_sound hc).2
    refine ⟨_, exec_configSet_taken ha hp hc, ?_, fun x hx i hi => ?_, fun i hi => ?_, rfl,
      setParams_slot_eq _ s, rfl, setParams_sup_of_iff⟩
    · rw [entries_of_checkPairs hc]
    · obtain ⟨k, hk, hm⟩ := param_of_checkPairs hc hx
      obtain rfl := ParamId.code_injective (hi.trans hk.symm)
      exact Params.apply_get_of_named hnodup (inRange_of_checkPairs hc) hm _
    · refine Params.apply_get_of_not_named (fun hm => hi ?_) _
      rw [codes_of_checkPairs hc]
      exact List.mem_map_of_mem hm
  · rw [setParams_slot, hn, Slot.switchCheck_to_zero _ ho]
    cases (s.slot i).timer with
    | none => rfl
    | some t => by_cases hk : t.kind = .check <;> simp [Option.filter, hk]
  · rw [setParams_slot, ho, Slot.switchCheck_from_zero _ hn]

end Sys2Proof.Machine


/-! ## The state after power-on -/

namespace Sys2Proof.Machine

set_option Elab.async false

/-! ### Each law at power-on (R176) -/

theorem reset_windowLaw : State.reset.WindowLaw := by
  refine .of_lawful (Nat.zero_le _) (Nat.zero_le _) (fun w => ?_) (fun w => ?_) (fun v w _ hv => ?_)
  · rw [reset_window]
    rfl
  · rw [reset_window]
    constructor <;> simp
  · exact absurd (by rw [reset_window]) hv

theorem reset_pageLaw : State.reset.PageLaw := fun i _ => by
  rw [reset_page]
  exact ⟨rfl, rfl⟩

theorem reset_countLaw : State.reset.CountLaw := ⟨Nat.zero_le _, reset_params_inRange⟩

theorem reset_faultLaw : State.reset.FaultLaw := by
  refine ⟨Nat.zero_le _, fun k e he => ?_, fun he => absurd rfl he, ?_, ?_, ?_⟩
  · cases he
  all_goals exact fun h => by cases h

theorem reset_linkLaw : State.reset.LinkLaw := by
  apply State.LinkLaw.of_empty rfl rfl <;> simp [State.reset, Config.breakTimes]

theorem reset_slotLaw : State.reset.SlotLaw := by
  refine (State.slotLaw_iff _).mpr ⟨fun i => ?_, fun w hw => by cases hw⟩
  have hi : State.reset.sup.slots[i] = powerOnSlot false := by simp [State.reset, powerOnSlot]
  exact hi ▸ powerOnSlot_lawful false

theorem reset_grantLaw : State.reset.GrantLaw := by
  constructor <;> simp [State.reset]
  exact fun r => by cases r <;> rfl

theorem reset_holdLaw : State.reset.HoldLaw :=
  (State.holdLaw_iff _).mpr ⟨.reset false, fun e => by cases e⟩

theorem reset_postLaw : State.reset.PostLaw := by
  refine .of_idle (Nat.zero_le _) (Nat.zero_le _) rfl rfl (fun x hx => ?_)
  cases hx

/-- Settles O60: each law by itself. -/
theorem resetMeetsLaws : Obligations.ResetMeetsLaws :=
  ⟨reset_windowLaw, reset_pageLaw, reset_countLaw, reset_faultLaw, reset_linkLaw, reset_slotLaw, reset_grantLaw,
    reset_holdLaw, reset_postLaw⟩

end Sys2Proof.Machine

/-! ## The fields of request payloads

What the byte parsers answer for a payload of the table's length, and that they answer nothing for another. -/

namespace Sys2Proof.Machine

/-! ### Byte order (R183) -/

theorem le32_toNat (a b c d : Byte) :
    (le32 a b c d).toNat = a.toNat + 256 * b.toNat + 65536 * c.toNat + 16777216 * d.toNat := by
  have happend : le32 a b c d = le24 b c d ++ a := rfl
  rw [happend, BitVec.toNat_append, ← Nat.shiftLeft_add_eq_or_of_lt a.isLt, Nat.shiftLeft_eq, le24_toNat]
  omega

theorem byteOf_toNat {n : Nat} (h : n < 256) : (byteOf n).toNat = n := by
  simpa [byteOf] using h

/-! ### Payloads of one fixed length (R188) -/

theorem eq_map_byteAt_range (p : List Byte) : p = (List.range p.length).map (byteAt p) := by
  refine List.ext_getElem (by simp) fun k hk _ => ?_
  simp [byteAt, hk]

/-- A parser that answers nothing off length `n` and something for every `n` bytes fits exactly that length. -/
theorem isSome_iff_length_eq {α : Type} {parse : List Byte → Option α} {n : Nat}
    (hother : ∀ {p : List Byte}, p.length ≠ n → parse p = none)
    (hfits : ∀ b : Nat → Byte, (parse ((List.range n).map b)).isSome = true) (p : List Byte) :
    (parse p).isSome = true ↔ p.length = n := by
  constructor
  · intro hp
    by_contra hn
    rw [hother hn] at hp
    cases hp
  · rintro rfl
    rw [eq_map_byteAt_range p]
    exact hfits (byteAt p)

theorem parseWindowSet_eq_none {p : List Byte} (h : p.length ≠ 15) : parseWindowSet p = none := by
  unfold parseWindowSet
  split
  · exact absurd rfl h
  · rfl

theorem parseAccessRead_eq_none {p : List Byte} (h : p.length ≠ 6) : parseAccessRead p = none := by
  unfold parseAccessRead
  split
  · exact absurd rfl h
  · rfl

theorem parseAccessSwap_eq_none {p : List Byte} (h : p.length ≠ 12) : parseAccessSwap p = none := by
  unfold parseAccessSwap
  split
  · exact absurd rfl h
  · rfl

theorem parseEmpty_isSome_iff (p : List Byte) : (parseEmpty p).isSome = true ↔ p.length = 0 :=
  isSome_iff_length_eq (fun h => parseEmpty_eq_none (mt List.length_eq_zero_iff.mpr h)) (fun _ => rfl) p

/-! ### Payloads whose length varies (R28, R188) -/

theorem parseAccessWrite_isSome_iff (p : List Byte) : (parseAccessWrite p).isSome = true ↔ 4 ≤ p.length := by
  match p with
  | [] | [_] | [_, _] | [_, _, _] => simp [parseAccessWrite]
  | _ :: _ :: _ :: _ :: data => simp [parseAccessWrite]

/-- The five bytes of a set of PAGE_WRITE are read back as that set. -/
theorem parsePageSets_flatMap (sets : List (Byte × Byte × Byte × Byte × Byte)) :
    parsePageSets (sets.flatMap fun x => [x.1, x.2.1, x.2.2.1, x.2.2.2.1, x.2.2.2.2]) =
      some (sets.map fun x => { valid := x.1, access := x.2.1, slot := x.2.2.1, frame := le16 x.2.2.2.1 x.2.2.2.2 }) := by
  induction sets with
  | nil => rfl
  | cons x sets ih =>
    rw [List.flatMap_cons, List.map_cons]
    simp only [List.cons_append, List.nil_append, parsePageSets, ih, Option.map_some]

theorem parsePageSets_of_length {p : List Byte} {n : Nat} (h : p.length = 5 * n) :
    ∃ sets, parsePageSets p = some sets ∧ sets.length = n := by
  induction p using parsePageSets.induct generalizing n with
  | case1 =>
    obtain rfl : n = 0 := by simpa using h
    exact ⟨[], rfl, rfl⟩
  | case2 v a sl f0 f1 rest ih =>
    simp only [List.length_cons] at h
    obtain ⟨sets, hs, hn⟩ := ih (n := n - 1) (by omega)
    refine ⟨_, by rw [parsePageSets, hs, Option.map_some], ?_⟩
    rw [List.length_cons]
    omega
  | case3 p hnil hcons =>
    match p with
    | [] => exact absurd rfl hnil
    | [_] | [_, _] | [_, _, _] | [_, _, _, _] =>
      simp only [List.length_cons, List.length_nil] at h
      omega
    | v :: a :: sl :: f0 :: f1 :: rest => exact absurd rfl (hcons v a sl f0 f1 rest)

theorem parsePageWrite_of_sets {f0 f1 c : Byte} {rest : List Byte} {sets : List PageSet}
    (hs : parsePageSets rest = some sets) (hc : sets.length = c.toNat) :
    parsePageWrite (f0 :: f1 :: c :: rest) = some ((le16 f0 f1).toNat, sets) := by
  simp only [parsePageWrite, hs]
  exact if_pos hc

theorem parsePageWrite_isSome_iff (p : List Byte) :
    (parsePageWrite p).isSome = true ↔ 3 ≤ p.length ∧ p.length = 3 + 5 * (byteAt p 2).toNat := by
  constructor
  · intro hp
    obtain ⟨x, hx⟩ := Option.isSome_iff_exists.mp hp
    exact parsePageWrite_length hx
  · rintro ⟨hlong, hlen⟩
    match p with
    | [] | [_] | [_, _] => simp at hlong
    | f0 :: f1 :: c :: rest =>
      have hcount : byteAt (f0 :: f1 :: c :: rest) 2 = c := rfl
      simp only [hcount, List.length_cons] at hlen
      obtain ⟨sets, hs, hc⟩ := parsePageSets_of_length (p := rest) (n := c.toNat) (by omega)
      rw [parsePageWrite_of_sets hs hc]
      rfl

/-! ### The request table (R188) -/

theorem parsePageWrite_flatMap (f0 f1 : Byte) {sets : List (Byte × Byte × Byte × Byte × Byte)}
    (h : sets.length < 256) :
    parsePageWrite ([f0, f1, byteOf sets.length] ++ sets.flatMap fun x => [x.1, x.2.1, x.2.2.1, x.2.2.2.1, x.2.2.2.2]) =
      some ((le16 f0 f1).toNat, sets.map fun x =>
        { valid := x.1, access := x.2.1, slot := x.2.2.1, frame := le16 x.2.2.2.1 x.2.2.2.2 }) :=
  parsePageWrite_of_sets (parsePageSets_flatMap sets) (by rw [List.length_map, byteOf_toNat h])

/-- Settles O6: byte order by the weights of the bytes, PAGE_WRITE by its sets, a fixed payload's fields by the
parser's own equation, and the lengths by the one lemma on parsers of a fixed length. -/
theorem payloadFields : Obligations.PayloadFields := by
  refine ⟨le16_toNat, le24_toNat, le32_toNat, ?windowSet, fun f0 f1 _ => parsePageWrite_flatMap f0 f1,
    parsePageWrite_isSome_iff, ?pageRead, ?pageSweep, ?accessRead, ?accessWrite, ?accessSwap, ?limit, ?attentionMask,
    ?faultRead, ?faultClear, fun p => ?lengths⟩
  case lengths =>
    exact ⟨isSome_iff_length_eq parseWindowSet_eq_none (fun _ => rfl) p,
      isSome_iff_length_eq parseByte_eq_none (fun _ => rfl) p,
      isSome_iff_length_eq parsePageRead_eq_none (fun _ => rfl) p,
      isSome_iff_length_eq parsePageSweep_eq_none (fun _ => rfl) p,
      isSome_iff_length_eq parseAccessRead_eq_none (fun _ => rfl) p,
      parseAccessWrite_isSome_iff p,
      isSome_iff_length_eq parseAccessSwap_eq_none (fun _ => rfl) p,
      parseEmpty_isSome_iff p,
      isSome_iff_length_eq parseLimit_eq_none (fun _ => rfl) p,
      isSome_iff_length_eq parseAttentionMask_eq_none (fun _ => rfl) p,
      isSome_iff_length_eq parseFaultRead_eq_none (fun _ => rfl) p,
      isSome_iff_length_eq parseFaultClear_eq_none (fun _ => rfl) p,
      isSome_iff_length_eq parseNoticeMask_eq_none (fun _ => rfl) p⟩
  all_goals
    intros
    rfl

end Sys2Proof.Machine

/-! ## One step (logs 8, 9) -/

namespace Sys2Proof.Machine

set_option Elab.async false

/-- The queue's rest is the state the front command runs on: nothing else changes before it. -/
theorem step_pending_cons (c : Instr) (s : State) : step { s with pending := c :: s.pending } = exec c s := rfl

theorem step_pending_nil (s : State) : step { s with pending := [] } = .next { s with pending := [] } := rfl

/-- No command stops the block: a request goes to its owner, and the meaning of an event answers a next state whatever
it finds, since one that is not due changes nothing. -/
theorem exec_completes (c : Instr) (s : State) : ∃ t, exec c s = .next t := by
  cases hr : c.request with
  | some q =>
    obtain ⟨kind, seq, payload⟩ := q
    exact ⟨_, exec_request hr s⟩
  | none =>
    cases c with
    | powerOn | breakBegin | breakEnd | frameDiscard | outputFrameBegin | frameSent | bridgeResetComplete
    | transferGrant | superviseGrant | inboundGrant | holdGrant
    | requestDriven | responseCodeArrives | readDataWordArrives | responseTimerExpiry
    | retryDelayExpiry | swapResendDelayExpiry | settleTimerExpiry | attemptGapExpiry | checkTimerExpiry
    | pulseTimerExpiry | limitTimerExpiry | backOffExpiry | stampTick
    | presenceActive | presenceInactive | attentionChange
    | windowDrainEnd | fenceAtHead | holdEnds => exact ⟨_, rfl⟩
    | _ => cases hr

/-- Settles O1: the front command and the empty queue by the step's own equations, and completion command by command. -/
theorem stepRunsFrontCommand : Obligations.StepRunsFrontCommand :=
  ⟨step_pending_cons, step_pending_nil, exec_completes⟩

end Sys2Proof.Machine
